-- ==== Sys2Proof/Word.lean ====
section
/-! DEFINITION. The value types of the FCC: a byte, a 32-bit register word, a 16-bit host address
(00_scope.md R16, 20_memory.md R60). All arithmetic is unsigned and wraps at the width of the type. -/

namespace Sys2Proof

/-- A byte, 0..255 (R16). -/
abbrev Byte := BitVec 8

/-- A 32-bit register word or command word (R64, R91). -/
abbrev Word := BitVec 32

/-- A host byte address, 0x0000 to 0xFFFF (R60). -/
abbrev Addr := BitVec 16

/-- The LEN field of a command word (R91). -/
abbrev Len := BitVec 16

end Sys2Proof
end

