-- ==== Sys2Proof/Config.lean ====
section
/-! DEFINITION. What is fixed for the life of the block: the size parameters (00_scope.md R13, R14),
the two parameters with no value in the spec (R12, R15), and the free values (R18, 10_state.md R54). -/

namespace Sys2Proof.Config

/-- R14: size of each host data buffer A and B. -/
abbrev BUF_BYTES : Nat := 1024
/-- R13: capacity of the reassembly accumulation buffer. -/
abbrev ACC_CAP : Nat := 256
/-- R14: pending-request buffer. -/
abbrev PEND_CAP : Nat := 256
/-- R14: reply buffer. -/
abbrev REPLY_CAP : Nat := 256
/-- R12: length of the key table. -/
abbrev KEY_LEN : Nat := 64
/-- R13: longest unescaped payload the encoder accepts. -/
abbrev MAX_PAYLOAD : Nat := 256
/-- 42_reassembler.md R192: longest application packet the receive path can carry. -/
abbrev MAX_PACKET : Nat := 251

end Sys2Proof.Config

namespace Sys2Proof

/-- The values TXN_MAX_RETRIES can have (R15: "a value in {3, 4, 5}"). -/
inductive RetryLimit where
  | three
  | four
  | five
  deriving DecidableEq, Repr, Inhabited

/-- TXN_MAX_RETRIES as a number. -/
def RetryLimit.toNat : RetryLimit → Nat
  | .three => 3
  | .four => 4
  | .five => 5

/-- The parameters of an FCC (R12, R15): the key table and the retry count. -/
structure Params where
  key        : Vector Byte Config.KEY_LEN
  maxRetries : RetryLimit
  deriving DecidableEq, Repr, Inhabited

/-- The parameters of the block that `State.reset` describes. The spec gives the key table no value
and the retry count three ("A reader must not assume any particular value", R12), so nothing can be
proved of them beyond their types. DESIGN CHOICE, safe (log 5). -/
opaque Config.params : Params

/-- FREE VALUE (R18, R115: "a draw: any value 0..255 under no law"): the byte the random source
gives to the n-th draw that no queued entropy byte answers. DESIGN CHOICE of form, safe (log 6). -/
opaque Config.freeDraw : Nat → Byte

/-- FREE VALUE (10_state.md R54, 93_implementation_defined.md U12): what reset number `n` leaves in
the buffer byte at host address `addr`. DESIGN CHOICE of form, safe (log 7). -/
opaque Config.resetByte : Nat → Nat → Byte

end Sys2Proof
end

