-- ==== Sys2Proof/Syntax.lean ====
section
/-! DEFINITION. The operations of the FCC, one constructor per row of spec/opcode_table.json
(30_encoding.md R94, R105, R112; 20_memory.md R66). A command keeps every bit of its word, used or
not, because CMD holds the word written (10_state.md R22). -/

namespace Sys2Proof

/-- The width of a host access, n in {1, 4} bytes (20_memory.md R66). -/
inductive Width where
  | byte
  | word
  deriving DecidableEq, Repr

/-- One operation of the FCC. -/
inductive Instr where
  /-- NOP (44_control.md R250). -/
  | nop (arg : Byte) (len : Len)
  /-- SCRAMBLE (40_scrambler.md R122). -/
  | scramble (arg : Byte) (len : Len)
  /-- DESCRAMBLE, ARG is the seed (40_scrambler.md R123). -/
  | descramble (seed : Byte) (len : Len)
  /-- ENCODE (41_frame_codec.md R152). -/
  | encode (arg : Byte) (len : Len)
  /-- ENCODE_H, ARG is the header byte (41_frame_codec.md R153). -/
  | encodeH (hdr : Byte) (len : Len)
  /-- DECODE (41_frame_codec.md R154). -/
  | decode (arg : Byte) (len : Len)
  /-- COPY_B2A (44_control.md R252). -/
  | copyB2a (arg : Byte) (len : Len)
  /-- Reserved, OP 0x07 (44_control.md R251); `rest` is CMD[23:0]. -/
  | reserved07 (rest : BitVec 24)
  /-- TXN_SEND, ARG[0] is the reply-required flag (43_correlator.md R220). -/
  | txnSend (arg : Byte) (len : Len)
  /-- TXN_ACK (43_correlator.md R224). -/
  | txnAck (arg : Byte) (len : Len)
  /-- Reserved, OP 0x0A to 0x0B (R251); `rest` is CMD[24:0]. -/
  | reserved0A (rest : BitVec 25)
  /-- Reserved, OP 0x0C to 0x0F (R251); `rest` is CMD[25:0]. -/
  | reserved0C (rest : BitVec 26)
  /-- Reserved, OP 0x10 to 0x1F (R251); `rest` is CMD[27:0]. -/
  | reserved10 (rest : BitVec 28)
  /-- Reserved, OP 0x20 to 0x3F (R251); `rest` is CMD[28:0]. -/
  | reserved20 (rest : BitVec 29)
  /-- Reserved, OP 0x40 to 0x7F (R251); `rest` is CMD[29:0]. -/
  | reserved40 (rest : BitVec 30)
  /-- Reserved, OP 0x80 to 0xFF (R251); `rest` is CMD[30:0]. -/
  | reserved80 (rest : BitVec 31)
  /-- RX_BYTE, one byte on the RX port (42_reassembler.md R183). -/
  | rxByte (b : Byte)
  /-- TIMEOUT (43_correlator.md R226). -/
  | timeout
  /-- RESET (70_reset_and_hazards.md R310). -/
  | reset
  /-- DISPATCH of the application packet `op :: args` (43_correlator.md R211). -/
  | dispatch (op : Byte) (args : List Byte)
  /-- MemRead (20_memory.md R66). -/
  | memRead (addr : Addr) (n : Width)
  /-- MemWrite (20_memory.md R66). -/
  | memWrite (addr : Addr) (n : Width) (v : Word)
  /-- Keypress report (30_encoding.md R105, R108), and so on for each listed opcode: the dispatch of
  a packet that begins with that opcode and goes on with `args`. -/
  | pkt11 (args : List Byte)
  /-- Multimedia-key report. -/
  | pkt12 (args : List Byte)
  /-- Touch report. -/
  | pkt13 (args : List Byte)
  /-- Keyboard-disable status. -/
  | pkt15 (args : List Byte)
  /-- Sync/uplink notification. -/
  | pkt16 (args : List Byte)
  /-- Set-param command. -/
  | pkt6A (args : List Byte)
  /-- Set-param response. -/
  | pkt6B (args : List Byte)
  /-- Get-param command. -/
  | pkt6C (args : List Byte)
  /-- Get-param response. -/
  | pkt6D (args : List Byte)
  /-- Start-firmware-update request. -/
  | pkt70 (args : List Byte)
  /-- Start-firmware-update reply. -/
  | pkt71 (args : List Byte)
  /-- Tx-firmware-data request. -/
  | pkt72 (args : List Byte)
  /-- Tx-firmware-data reply. -/
  | pkt73 (args : List Byte)
  /-- End-firmware-update request. -/
  | pkt74 (args : List Byte)
  /-- End-firmware-update reply. -/
  | pkt75 (args : List Byte)
  /-- Soft-reset request. -/
  | pkt76 (args : List Byte)
  /-- Soft-reset reply. -/
  | pkt77 (args : List Byte)
  /-- Production request. -/
  | pkt7C (args : List Byte)
  /-- Production reply. -/
  | pkt7D (args : List Byte)
  /-- I2c-write request. -/
  | pkt80 (args : List Byte)
  /-- I2c-write reply. -/
  | pkt81 (args : List Byte)
  /-- I2c-read request. -/
  | pkt82 (args : List Byte)
  /-- I2c-read reply. -/
  | pkt83 (args : List Byte)
  /-- Tp-version request. -/
  | pkt84 (args : List Byte)
  /-- Tp-version reply. -/
  | pkt85 (args : List Byte)
  /-- Any other opcode (30_encoding.md R108). -/
  | pktOther (op : Byte) (args : List Byte)
  deriving DecidableEq, Repr

end Sys2Proof
end

