-- ==== Sys2Proof/WellFormed.lean ====
section
/-! DEFINITION. Which operations the FCC can be given: an application packet has 1 to 251 bytes
(43_correlator.md R211, 42_reassembler.md R192), the row "any other" takes no listed opcode
(30_encoding.md R108), and a 1-byte host write carries one byte (20_memory.md R66). -/

namespace Sys2Proof

/-- The opcodes 30_encoding.md R105 lists. -/
def listedOpcodes : List Byte :=
  [0x11, 0x12, 0x13, 0x15, 0x16] ++
  [0x6A, 0x6B, 0x6C, 0x6D, 0x70, 0x71, 0x72, 0x73, 0x74, 0x75] ++
  [0x76, 0x77, 0x7C, 0x7D, 0x80, 0x81, 0x82, 0x83, 0x84, 0x85]

/-- The application packet that an operation of the dispatcher carries, as opcode and arguments. -/
def Instr.packet? : Instr → Option (Byte × List Byte)
  | .dispatch op args => some (op, args)
  | .pkt11 args => some (0x11, args)
  | .pkt12 args => some (0x12, args)
  | .pkt13 args => some (0x13, args)
  | .pkt15 args => some (0x15, args)
  | .pkt16 args => some (0x16, args)
  | .pkt6A args => some (0x6A, args)
  | .pkt6B args => some (0x6B, args)
  | .pkt6C args => some (0x6C, args)
  | .pkt6D args => some (0x6D, args)
  | .pkt70 args => some (0x70, args)
  | .pkt71 args => some (0x71, args)
  | .pkt72 args => some (0x72, args)
  | .pkt73 args => some (0x73, args)
  | .pkt74 args => some (0x74, args)
  | .pkt75 args => some (0x75, args)
  | .pkt76 args => some (0x76, args)
  | .pkt77 args => some (0x77, args)
  | .pkt7C args => some (0x7C, args)
  | .pkt7D args => some (0x7D, args)
  | .pkt80 args => some (0x80, args)
  | .pkt81 args => some (0x81, args)
  | .pkt82 args => some (0x82, args)
  | .pkt83 args => some (0x83, args)
  | .pkt84 args => some (0x84, args)
  | .pkt85 args => some (0x85, args)
  | .pktOther op args => some (op, args)
  | .nop _ _ | .scramble _ _ | .descramble _ _ | .encode _ _ | .encodeH _ _ | .decode _ _
  | .copyB2a _ _ | .reserved07 _ | .txnSend _ _ | .txnAck _ _ | .reserved0A _ | .reserved0C _
  | .reserved10 _ | .reserved20 _ | .reserved40 _ | .reserved80 _ | .rxByte _ | .timeout | .reset
  | .memRead _ _ | .memWrite _ _ _ => none

/-- R211: a packet of 1 to 251 bytes, the opcode and at most 250 more (log 15). -/
def packetFits (args : List Byte) : Bool := args.length + 1 ≤ Config.MAX_PACKET

/-- The operation is one the FCC can be given. -/
def Instr.wellFormed (i : Instr) : Bool :=
  match i with
  | .pktOther op args => packetFits args && !(listedOpcodes.contains op)
  | .memWrite _ .byte v => v.toNat < 256
  | i => match i.packet? with
    | some (_, args) => packetFits args
    | none => true

end Sys2Proof
end

