-- ==== Sys2Proof/Decode.lean ====
section
/-! DEFINITION. How an operation reaches the FCC, and the decoder and encoder between the two.

An event is a port and the bytes it carries (30_encoding.md R112). A command word is the spec's own
(R91, R94); how the other events are written as bytes is the model's (log 2). The command word's
bytes are listed least significant first: the host interface has no observable byte order
(20_memory.md R64), so this is the model's choice (log 2). -/

namespace Sys2Proof

/-- The port or internal input an event arrives at (the "format" column of the opcode table). -/
inductive Port where
  /-- A host word write of CMD (R90). -/
  | cmd
  /-- The RX port (R113). -/
  | rx
  /-- The TIMEOUT port (R116). -/
  | timeout
  /-- The RESET port (R118). -/
  | reset
  /-- The dispatcher's input (43_correlator.md R211), internal to RX_BYTE in the hardware (log 9). -/
  | dispatch
  /-- The dispatcher's input, seen by opcode (R105, R108; log 9). -/
  | packet
  /-- HOST port, MemRead (20_memory.md R66). -/
  | memRead
  /-- HOST port, MemWrite (20_memory.md R66). -/
  | memWrite
  deriving DecidableEq, Repr

/-- One event of the environment: the port and the bytes it carries. -/
structure Event where
  port  : Port
  bytes : List Byte
  deriving DecidableEq, Repr

/-- Why bytes are no event of their port. No event of the hardware is one of these (log 4). -/
inductive DecodeError where
  /-- The port carries another number of bytes. -/
  | wrongLength
  /-- The access width is neither 1 nor 4 (20_memory.md R66). -/
  | badWidth
  /-- An application packet has 1 to 251 bytes (43_correlator.md R211). -/
  | badPacketLength
  deriving DecidableEq, Repr

/-! ### Bit fields and bytes -/

/-- The bytes of a 32-bit word, least significant first (log 2). -/
def wordBytes (w : Word) : List Byte :=
  [w.extractLsb' 0 8, w.extractLsb' 8 8, w.extractLsb' 16 8, w.extractLsb' 24 8]

/-- The word whose bytes are given least significant first. -/
def wordOfBytes (b0 b1 b2 b3 : Byte) : Word := b3 ++ b2 ++ b1 ++ b0

/-- The bytes of a host address, least significant first (log 2). -/
def addrBytes (a : Addr) : List Byte := [a.extractLsb' 0 8, a.extractLsb' 8 8]

/-- The address whose bytes are given least significant first. -/
def addrOfBytes (lo hi : Byte) : Addr := hi ++ lo

/-- R91: the command word with the fields OP, ARG and LEN. -/
def cmdWord (op arg : Byte) (len : Len) : Word := op ++ arg ++ len

/-- R91: OP = CMD[31:24]. -/
def cmdOp (w : Word) : Byte := w.extractLsb' 24 8
/-- R91: ARG = CMD[23:16]. -/
def cmdArg (w : Word) : Byte := w.extractLsb' 16 8
/-- R91: LEN = CMD[15:0]. -/
def cmdLen (w : Word) : Len := w.extractLsb' 0 16

/-! ### The decoder -/

/-- R94, R95: the command a word encodes. Every word encodes one. The reserved rows are those of the
opcode table, each with the bits its mask leaves open. -/
def decodeCommand (w : Word) : Instr :=
  if cmdOp w = 0x00 then .nop (cmdArg w) (cmdLen w)
  else if cmdOp w = 0x01 then .scramble (cmdArg w) (cmdLen w)
  else if cmdOp w = 0x02 then .descramble (cmdArg w) (cmdLen w)
  else if cmdOp w = 0x03 then .encode (cmdArg w) (cmdLen w)
  else if cmdOp w = 0x04 then .encodeH (cmdArg w) (cmdLen w)
  else if cmdOp w = 0x05 then .decode (cmdArg w) (cmdLen w)
  else if cmdOp w = 0x06 then .copyB2a (cmdArg w) (cmdLen w)
  else if cmdOp w = 0x07 then .reserved07 (w.extractLsb' 0 24)
  else if cmdOp w = 0x08 then .txnSend (cmdArg w) (cmdLen w)
  else if cmdOp w = 0x09 then .txnAck (cmdArg w) (cmdLen w)
  else if w.extractLsb' 25 7 = 0x05#7 then .reserved0A (w.extractLsb' 0 25)
  else if w.extractLsb' 26 6 = 0x03#6 then .reserved0C (w.extractLsb' 0 26)
  else if w.extractLsb' 28 4 = 0x1#4 then .reserved10 (w.extractLsb' 0 28)
  else if w.extractLsb' 29 3 = 0x1#3 then .reserved20 (w.extractLsb' 0 29)
  else if w.extractLsb' 30 2 = 0x1#2 then .reserved40 (w.extractLsb' 0 30)
  else .reserved80 (w.extractLsb' 0 31)

/-- R105, R108: the row of the opcode table for a packet's first byte. -/
def packetInstr (op : Byte) (args : List Byte) : Instr :=
  if op = 0x11 then .pkt11 args
  else if op = 0x12 then .pkt12 args
  else if op = 0x13 then .pkt13 args
  else if op = 0x15 then .pkt15 args
  else if op = 0x16 then .pkt16 args
  else if op = 0x6A then .pkt6A args
  else if op = 0x6B then .pkt6B args
  else if op = 0x6C then .pkt6C args
  else if op = 0x6D then .pkt6D args
  else if op = 0x70 then .pkt70 args
  else if op = 0x71 then .pkt71 args
  else if op = 0x72 then .pkt72 args
  else if op = 0x73 then .pkt73 args
  else if op = 0x74 then .pkt74 args
  else if op = 0x75 then .pkt75 args
  else if op = 0x76 then .pkt76 args
  else if op = 0x77 then .pkt77 args
  else if op = 0x7C then .pkt7C args
  else if op = 0x7D then .pkt7D args
  else if op = 0x80 then .pkt80 args
  else if op = 0x81 then .pkt81 args
  else if op = 0x82 then .pkt82 args
  else if op = 0x83 then .pkt83 args
  else if op = 0x84 then .pkt84 args
  else if op = 0x85 then .pkt85 args
  else .pktOther op args

/-- The width code of a host access: its number of bytes (20_memory.md R66). -/
def widthCode : Width → Byte
  | .byte => 1
  | .word => 4

/-- A host read: address and width. -/
def decodeMemRead : List Byte → Except DecodeError Instr
  | [lo, hi, n] =>
    if n = 1 then .ok (.memRead (addrOfBytes lo hi) .byte)
    else if n = 4 then .ok (.memRead (addrOfBytes lo hi) .word)
    else .error .badWidth
  | _ => .error .wrongLength

/-- A host write: address, width and as many bytes of the value. -/
def decodeMemWrite : List Byte → Except DecodeError Instr
  | lo :: hi :: n :: v =>
    if n = 1 then
      match v with
      | [b] => .ok (.memWrite (addrOfBytes lo hi) .byte (b.setWidth 32))
      | _ => .error .wrongLength
    else if n = 4 then
      match v with
      | [b0, b1, b2, b3] => .ok (.memWrite (addrOfBytes lo hi) .word (wordOfBytes b0 b1 b2 b3))
      | _ => .error .wrongLength
    else .error .badWidth
  | _ => .error .wrongLength

/-- A packet at the dispatcher's input, of 1 to 251 bytes. -/
def decodePacket (mk : Byte → List Byte → Instr) : List Byte → Except DecodeError Instr
  | op :: args => if packetFits args then .ok (mk op args) else .error .badPacketLength
  | [] => .error .badPacketLength

/-- The operation an event stands for, or why it stands for none. -/
def decode (e : Event) : Except DecodeError Instr :=
  match e.port with
  | .cmd => match e.bytes with
    | [b0, b1, b2, b3] => .ok (decodeCommand (wordOfBytes b0 b1 b2 b3))
    | _ => .error .wrongLength
  | .rx => match e.bytes with
    | [b] => .ok (.rxByte b)
    | _ => .error .wrongLength
  | .timeout => match e.bytes with
    | [] => .ok .timeout
    | _ :: _ => .error .wrongLength
  | .reset => match e.bytes with
    | [] => .ok .reset
    | _ :: _ => .error .wrongLength
  | .dispatch => decodePacket .dispatch e.bytes
  | .packet => decodePacket packetInstr e.bytes
  | .memRead => decodeMemRead e.bytes
  | .memWrite => decodeMemWrite e.bytes

/-! ### The words of the opcode table -/

/-- The event whose bits are `w`, for a row of `nbits` bits of the opcode table: the 32-bit rows are
command words, the 8-bit rows with fixed bits are packet opcodes. A row with no bits of its own
(TIMEOUT, RESET, DISPATCH, MemRead, MemWrite) has no word in the table, so its event is not
one of these, and neither is RX_BYTE, whose eight bits are all operand (log 10). -/
def tableEvent (nbits w : Nat) : Event :=
  if nbits = 32 then ⟨.cmd, wordBytes (BitVec.ofNat 32 w)⟩
  else if nbits = 8 then ⟨.packet, [BitVec.ofNat 8 w]⟩
  else ⟨.cmd, []⟩

/-- The instruction the decoder reads from a word of the opcode table. -/
def decodeTableWord (nbits w : Nat) : Option Instr :=
  match decode (tableEvent nbits w) with
  | .ok i => some i
  | .error _ => none

/-! ### The encoder -/

/-- R97: the word of a command; none for an operation that is no command. -/
def Instr.commandWord? : Instr → Option Word
  | .nop arg len => some (cmdWord 0x00 arg len)
  | .scramble arg len => some (cmdWord 0x01 arg len)
  | .descramble seed len => some (cmdWord 0x02 seed len)
  | .encode arg len => some (cmdWord 0x03 arg len)
  | .encodeH hdr len => some (cmdWord 0x04 hdr len)
  | .decode arg len => some (cmdWord 0x05 arg len)
  | .copyB2a arg len => some (cmdWord 0x06 arg len)
  | .reserved07 rest => some (0x07#8 ++ rest)
  | .txnSend arg len => some (cmdWord 0x08 arg len)
  | .txnAck arg len => some (cmdWord 0x09 arg len)
  | .reserved0A rest => some (0x05#7 ++ rest)
  | .reserved0C rest => some (0x03#6 ++ rest)
  | .reserved10 rest => some (0x1#4 ++ rest)
  | .reserved20 rest => some (0x1#3 ++ rest)
  | .reserved40 rest => some (0x1#2 ++ rest)
  | .reserved80 rest => some (0x1#1 ++ rest)
  | .rxByte _ | .timeout | .reset | .dispatch _ _ | .memRead _ _ | .memWrite _ _ _
  | .pkt11 _ | .pkt12 _ | .pkt13 _ | .pkt15 _ | .pkt16 _ | .pkt6A _ | .pkt6B _ | .pkt6C _
  | .pkt6D _ | .pkt70 _ | .pkt71 _ | .pkt72 _ | .pkt73 _ | .pkt74 _ | .pkt75 _ | .pkt76 _
  | .pkt77 _ | .pkt7C _ | .pkt7D _ | .pkt80 _ | .pkt81 _ | .pkt82 _ | .pkt83 _ | .pkt84 _
  | .pkt85 _ | .pktOther _ _ => none

/-- The value bytes of a host write of width `n`. -/
def valueBytes : Width → Word → List Byte
  | .byte, v => [v.extractLsb' 0 8]
  | .word, v => wordBytes v

/-- The event that stands for an operation. -/
def encode (i : Instr) : Event :=
  match i with
  | .rxByte b => ⟨.rx, [b]⟩
  | .timeout => ⟨.timeout, []⟩
  | .reset => ⟨.reset, []⟩
  | .dispatch op args => ⟨.dispatch, op :: args⟩
  | .memRead addr n => ⟨.memRead, addrBytes addr ++ [widthCode n]⟩
  | .memWrite addr n v => ⟨.memWrite, addrBytes addr ++ widthCode n :: valueBytes n v⟩
  | i => match i.commandWord?, i.packet? with
    | some w, _ => ⟨.cmd, wordBytes w⟩
    | none, some (op, args) => ⟨.packet, op :: args⟩
    | none, none => ⟨.cmd, []⟩

end Sys2Proof
end

