-- ==== Sys2Proof/Machine/State.lean ====
section
/-! DEFINITION. The state of the FCC (10_state.md R20) as plain data, the reasons a step can stop,
and the state after reset (R54). Beside the spec's state it holds the streams the model records as
its observation (R48), the environment's inputs, and the counters of the free values. -/

namespace Sys2Proof.Machine

/-- RSM_STATE (10_state.md R29). The encoding 3 does not exist here (R55). -/
inductive RsmState where
  | waitFlag1
  | waitFlag2
  | waitTerminator
  deriving DecidableEq, Repr

/-- TXC_STATE (10_state.md R35). The encodings 4 to 7 do not exist here (R55). -/
inductive TxcState where
  | idle
  | waitLoopback
  | waitReply
  | done
  deriving DecidableEq, Repr

/-- The categories of unsolicited packets (30_encoding.md R108). -/
inductive Category where
  | unknown
  | keypress
  | mmkey
  | touch
  | kbDisable
  | sync
  | control
  | fwUpdate
  deriving DecidableEq, Repr

/-- One event on the PKT port (30_encoding.md R117). -/
structure PktEvent where
  cat    : Category
  packet : List Byte
  deriving DecidableEq, Repr

/-- Why the machine stops with a fault. Each is a state that no run reaches and from which the spec
gives no step (10_state.md R55, 93_implementation_defined.md U15: a step from it is a fault). -/
inductive Fault where
  /-- Raised by RX_BYTE when it would append at RSM_LEN above 255, where RSM_BUF has no element
  (20_memory.md R61). Safe: no reachable state raises it (log 11). -/
  | stuckRsmLen
  /-- Raised by RX_BYTE when a frame decodes to no byte at all, so that there is no seed byte
  (42_reassembler.md R193 shows it cannot happen). Safe: no reachable state raises it (log 11). -/
  | stuckNoSeed
  deriving DecidableEq, Repr

/-- Why the machine refuses a step. -/
inductive Refusal where
  /-- Raised by an arm of exec for an instruction with no meaning yet. Safe. -/
  | notModelled (mnemonic : String)
  /-- Raised by step for an event whose bytes are no event of its port; the hardware has no such
  event. Safe (log 4). -/
  | notAnEvent (reason : DecodeError)
  deriving DecidableEq, Repr

/-- The state of one FCC (10_state.md R20). -/
structure State where
  /-- KEY_TABLE and TXN_MAX_RETRIES (R21, R44): held here, written by nothing (log 5). -/
  params       : Params
  /-- CMD (R22). -/
  cmd          : Word
  /-- STATUS (R23). -/
  status       : BitVec 8
  /-- OUT_LEN (R24). -/
  outLen       : BitVec 11
  /-- SEED (R25). -/
  seed         : BitVec 7
  /-- CTRL.IRQ_EN (R26). -/
  irqEn        : Bool
  /-- A (R27). -/
  a            : Vector Byte Config.BUF_BYTES
  /-- B (R28). -/
  b            : Vector Byte Config.BUF_BYTES
  /-- RSM_STATE (R29). -/
  rsmState     : RsmState
  /-- RSM_LEN (R30). -/
  rsmLen       : BitVec 9
  /-- RSM_BUF (R31). -/
  rsmBuf       : Vector Byte Config.ACC_CAP
  /-- RX_LAST (R33). -/
  rxLast       : BitVec 8
  /-- RX_OK_CNT (R34). -/
  rxOkCnt      : BitVec 32
  /-- RX_STRUCT_CNT (R34). -/
  rxStructCnt  : BitVec 32
  /-- RX_CKSUM_CNT (R34). -/
  rxCksumCnt   : BitVec 32
  /-- RX_OVF_CNT (R34). -/
  rxOvfCnt     : BitVec 32
  /-- TXC_STATE (R35). -/
  txcState     : TxcState
  /-- PEND_BUF (R36). -/
  pendBuf      : Vector Byte Config.PEND_CAP
  /-- PEND_LEN (R36). -/
  pendLen      : BitVec 9
  /-- REPLY_REQ (R37). -/
  replyReq     : Bool
  /-- REPLY_SEEN (R38). -/
  replySeen    : Bool
  /-- REPLY_BUF (R39). -/
  replyBuf     : Vector Byte Config.REPLY_CAP
  /-- REPLY_LEN (R39). -/
  replyLen     : BitVec 9
  /-- ATTEMPT (R40). -/
  attempt      : BitVec 4
  /-- RESULT (R41). -/
  result       : BitVec 8
  /-- TXC_SEED (R42). -/
  txcSeed      : BitVec 7
  /-- Observation: every byte handed to the TX port so far, oldest first (R48, log 8). -/
  txOut        : List Byte
  /-- Observation: every event on the PKT port so far, oldest first (R48, log 8). -/
  pktOut       : List PktEvent
  /-- Observation: every result of a host read so far, oldest first (R48, log 8). -/
  hostReads    : List Word
  /-- Environment: the events still to be delivered, next first (20_memory.md R74, log 1). -/
  inputs       : List Event
  /-- Environment: the bytes the random source has ready, next first (30_encoding.md R115, log 6). -/
  entropyIn    : List Byte
  /-- Model: how many draws took a free value because `entropyIn` was empty (log 6). -/
  drawCount    : Nat
  /-- Model: how many RESET events there were (log 7). -/
  resetCount   : Nat
  deriving DecidableEq, Repr

/-- The free values that reset number `n` leaves in `k` buffer bytes from host address `base`. -/
def resetBytes (n base : Nat) : Nat → List Byte
  | 0 => []
  | k + 1 => Config.resetByte n base :: resetBytes n (base + 1) k

theorem resetBytes_length (n base k : Nat) : (resetBytes n base k).length = k := by
  induction k generalizing base with
  | zero => rfl
  | succ k ih => simp [resetBytes, ih]

/-- A buffer of `k` bytes at host address `base` after reset number `n`: a draw for each byte
(R54: "a model gives each byte a free value at reset, and no rule may assume it"). -/
def resetBuffer (n base k : Nat) : Vector Byte k :=
  ⟨(resetBytes n base k).toArray, by simp [resetBytes_length]⟩

/-- R54: the state after power-on, every register at the value of its table, every buffer byte a
draw, nothing emitted, no event pending. -/
def State.reset : State where
  params       := Config.params
  cmd          := 0
  status       := 0
  outLen       := 0
  seed         := 0
  irqEn        := false
  a            := resetBuffer 0 0x1000 Config.BUF_BYTES
  b            := resetBuffer 0 0x1400 Config.BUF_BYTES
  rsmState     := .waitFlag1
  rsmLen       := 0
  rsmBuf       := resetBuffer 0 0x1800 Config.ACC_CAP
  rxLast       := 0
  rxOkCnt      := 0
  rxStructCnt  := 0
  rxCksumCnt   := 0
  rxOvfCnt     := 0
  txcState     := .idle
  pendBuf      := resetBuffer 0 0x1900 Config.PEND_CAP
  pendLen      := 0
  replyReq     := false
  replySeen    := false
  replyBuf     := resetBuffer 0 0x1A00 Config.REPLY_CAP
  replyLen     := 0
  attempt      := 0
  result       := 0
  txcSeed      := 0
  txOut        := []
  pktOut       := []
  hostReads    := []
  inputs       := []
  entropyIn    := []
  drawCount    := 0
  resetCount   := 0

/-- The outcome of one operation. -/
abbrev Result := Host.Outcome State Fault Refusal

end Sys2Proof.Machine
end

