-- ==== Sys2Proof/Machine/Flags.lean ====
section
/-! DEFINITION. Codes, encodings and derived signals: the status codes (60_exceptions.md R270), the
state encodings (10_state.md R29, R35), the category map (30_encoding.md R108), the predicates
WAITING, LOCKED and IRQ (10_state.md R45 to R47), and the writes of each code register. The FCC has
no arithmetic flags and no traps: writing a code is all an error does (R51, 60_exceptions.md R275). -/

namespace Sys2Proof.Machine

/-! ### Codes (60_exceptions.md R270) -/

abbrev OK : BitVec 8 := 0x00
abbrev NONE : BitVec 8 := 0x00
abbrev ERR_BADCMD : BitVec 8 := 0x01
abbrev ERR_LEN : BitVec 8 := 0x02
abbrev ERR_BUSY : BitVec 8 := 0x03
abbrev ERR_STATE : BitVec 8 := 0x04
abbrev ENC_TOO_LONG : BitVec 8 := 0x05
abbrev ENC_OVERFLOW : BitVec 8 := 0x06
abbrev FRAME_TOO_SHORT : BitVec 8 := 0x10
abbrev MARKER_NOT_FOUND : BitVec 8 := 0x11
abbrev TERMINATOR_NOT_FOUND : BitVec 8 := 0x12
abbrev INVALID_ESCAPE : BitVec 8 := 0x13
abbrev CHECKSUM_MISMATCH : BitVec 8 := 0x14
abbrev RX_BUFFER_OVERFLOW : BitVec 8 := 0x15
abbrev RX_OK : BitVec 8 := 0x20
abbrev RX_EMPTY : BitVec 8 := 0x21
abbrev TXN_OK : BitVec 8 := 0x30
abbrev TXN_TIMEOUT : BitVec 8 := 0x31
abbrev TXN_LOOPBACK_MISMATCH : BitVec 8 := 0x32

/-- What the codec functions can report (41_frame_codec.md R143, R145). -/
inductive CodecError where
  | encTooLong
  | encOverflow
  | frameTooShort
  | markerNotFound
  | terminatorNotFound
  | invalidEscape
  | checksumMismatch
  deriving DecidableEq, Repr

/-- 41_frame_codec.md R151, 60_exceptions.md R270: the code of a codec error. -/
def CodecError.code : CodecError → BitVec 8
  | .encTooLong => ENC_TOO_LONG
  | .encOverflow => ENC_OVERFLOW
  | .frameTooShort => FRAME_TOO_SHORT
  | .markerNotFound => MARKER_NOT_FOUND
  | .terminatorNotFound => TERMINATOR_NOT_FOUND
  | .invalidEscape => INVALID_ESCAPE
  | .checksumMismatch => CHECKSUM_MISMATCH

/-! ### Encodings -/

/-- 10_state.md R29. -/
def RsmState.code : RsmState → BitVec 2
  | .waitFlag1 => 0
  | .waitFlag2 => 1
  | .waitTerminator => 2

/-- 10_state.md R35. -/
def TxcState.code : TxcState → BitVec 3
  | .idle => 0
  | .waitLoopback => 1
  | .waitReply => 2
  | .done => 3

/-- 30_encoding.md R108: the 8-bit code of a category. -/
def Category.code : Category → BitVec 8
  | .unknown => 0x00
  | .keypress => 0x01
  | .mmkey => 0x02
  | .touch => 0x03
  | .kbDisable => 0x04
  | .sync => 0x05
  | .control => 0x06
  | .fwUpdate => 0x07

/-- 30_encoding.md R108: the opcodes of CAT_CONTROL. -/
def controlOpcodes : List Byte :=
  [0x6A, 0x6B, 0x6C, 0x6D, 0x76, 0x77, 0x7C, 0x7D, 0x80, 0x81, 0x82, 0x83, 0x84, 0x85]

/-- 30_encoding.md R108: the opcodes of CAT_FWUPDATE. -/
def fwUpdateOpcodes : List Byte := [0x70, 0x71, 0x72, 0x73, 0x74, 0x75]

/-- 30_encoding.md R108: the category of an opcode. -/
def category (op : Byte) : Category :=
  if op = 0x11 then .keypress
  else if op = 0x12 then .mmkey
  else if op = 0x13 then .touch
  else if op = 0x15 then .kbDisable
  else if op = 0x16 then .sync
  else if op ∈ controlOpcodes then .control
  else if op ∈ fwUpdateOpcodes then .fwUpdate
  else .unknown

/-! ### Derived signals -/

/-- 10_state.md R46. -/
def State.waiting (s : State) : Bool := s.txcState = .waitLoopback ∨ s.txcState = .waitReply

/-- 10_state.md R47. -/
def State.locked (s : State) : Bool := s.txcState ≠ .idle

/-- 10_state.md R45, 60_exceptions.md R281: the level of the IRQ line. -/
def State.irq (s : State) : Bool := s.irqEn && s.txcState = .done

/-! ### Writes of the code registers -/

/-- 00_scope.md R18, `status(code)`. -/
def State.setStatus (s : State) (code : BitVec 8) : State := { s with status := code }

/-- 43_correlator.md R218, `finish(c)`. -/
def State.finish (s : State) (code : BitVec 8) : State :=
  { s with txcState := .done, result := code }

/-- 42_reassembler.md R189: the log of a frame that failed with error `e`: RX_LAST, and the counter
of checksum errors or of structural ones. -/
def State.logBadFrame (s : State) (e : CodecError) : State :=
  if e = .checksumMismatch then { s with rxLast := e.code, rxCksumCnt := s.rxCksumCnt + 1 }
  else { s with rxLast := e.code, rxStructCnt := s.rxStructCnt + 1 }

/-- 42_reassembler.md R190: the log of an overflow. -/
def State.logOverflow (s : State) : State :=
  { s with rxLast := RX_BUFFER_OVERFLOW, rxOvfCnt := s.rxOvfCnt + 1 }

end Sys2Proof.Machine
end

