-- ==== Sys2Proof/Machine/Codec.lean ====
section
/-! DEFINITION. The pure functions of the scrambler and of the frame codec: kidx and scr
(40_scrambler.md R120, R121), the escape map and the checksum (41_frame_codec.md R140, R141), enc
(R143) and dec (R145). The commands, the transmit path and the receive path all call these. -/

namespace Sys2Proof.Machine

/-! ### The wire constants (00_scope.md R11) -/

def FLAG1 : Byte := 0x7E
def FLAG2 : Byte := 0xFF
def ESC : Byte := 0x7D
def FLAG1_ESC : Byte := 0x5E
def ESC_ESC : Byte := 0x5D

/-! ### Scrambler -/

/-- 40_scrambler.md R120: `kidx(s, i) = (s + i) mod 64`, the sum taken without overflow. -/
def kidx (seed : Byte) (i : Nat) : Nat := (seed.toNat + i) % Config.KEY_LEN

/-- KEY[kidx(s, i)]. -/
def keyByte (key : Vector Byte Config.KEY_LEN) (seed : Byte) (i : Nat) : Byte :=
  key[kidx seed i]'(Nat.mod_lt _ (by decide))

/-- `scr` from byte index `i` on. -/
def scrFrom (key : Vector Byte Config.KEY_LEN) (seed : Byte) : Nat → List Byte → List Byte
  | _, [] => []
  | i, x :: xs => (x ^^^ keyByte key seed i) :: scrFrom key seed (i + 1) xs

/-- 40_scrambler.md R121: `scr(src, s)`, both scramble and descramble. -/
def scr (key : Vector Byte Config.KEY_LEN) (src : List Byte) (seed : Byte) : List Byte :=
  scrFrom key seed 0 src

/-- 40_scrambler.md R125: the seed of a draw, `Draw8() AND 0x7F`. -/
def seedOfDraw (d : Byte) : Byte := d &&& 0x7F

/-! ### Frame codec: encoder -/

/-- 41_frame_codec.md R140, the escape map E. -/
def esc (x : Byte) : List Byte :=
  if x = FLAG1 then [ESC, FLAG1_ESC]
  else if x = ESC then [ESC, ESC_ESC]
  else [x]

/-- E of each byte of a sequence, in order. -/
def escAll : List Byte → List Byte
  | [] => []
  | x :: xs => esc x ++ escAll xs

/-- 00_scope.md R18, `sum8` with a running value: the rolling checksum of 41_frame_codec.md R141. -/
def sumFrom : Byte → List Byte → Byte
  | c, [] => c
  | c, x :: xs => sumFrom (c + x) xs

/-- 00_scope.md R18: the sum of the bytes mod 256. -/
def sum8 (xs : List Byte) : Byte := sumFrom 0 xs

/-- 00_scope.md R13: ENC_CAP(H) = 2*MAX_PAYLOAD + 2*H + 4. -/
def encCap (h : Nat) : Nat := 2 * Config.MAX_PAYLOAD + 2 * h + 4

/-- 30_encoding.md R99: the wire frame of header `h` and payload `p`, whatever its length. -/
def frame (h p : List Byte) : List Byte :=
  [FLAG1, FLAG1, FLAG2] ++ escAll (h ++ p) ++ esc (sum8 (h ++ p)) ++ [FLAG1]

/-- 41_frame_codec.md R143: `enc(h, p)`. -/
def enc (h p : List Byte) : Except CodecError (List Byte) :=
  if p.length > Config.MAX_PAYLOAD then .error .encTooLong
  else if (frame h p).length > encCap h.length then .error .encOverflow
  else .ok (frame h p)

/-! ### Frame codec: decoder -/

/-- 41_frame_codec.md R146: looks for `FLAG1 FLAG2` at the first `n` start positions, and answers
what follows the first such pair. -/
def afterMarker : Nat → List Byte → Option (List Byte)
  | n + 1, x :: y :: rest =>
    if x = FLAG1 ∧ y = FLAG2 then some rest else afterMarker n (y :: rest)
  | _, _ => none

/-- 41_frame_codec.md R147: the bytes before the first FLAG1; none if there is no FLAG1. -/
def beforeFlag1 : List Byte → Option (List Byte)
  | [] => none
  | x :: xs => if x = FLAG1 then some [] else (beforeFlag1 xs).map (x :: ·)

/-- 41_frame_codec.md R148: unescapes a region left to right. -/
def unescape : List Byte → Except CodecError (List Byte)
  | [] => .ok []
  | [x] => if x = ESC then .error .invalidEscape else .ok [x]
  | x :: y :: rest =>
    if x = ESC then
      if y = FLAG1_ESC then (unescape rest).map (FLAG1 :: ·)
      else if y = ESC_ESC then (unescape rest).map (ESC :: ·)
      else .error .invalidEscape
    else (unescape (y :: rest)).map (x :: ·)

/-- 41_frame_codec.md R149: splits the unescaped region into data and checksum and checks it. -/
def validate (u : List Byte) : Except CodecError (List Byte) :=
  if sum8 u.dropLast = u.getLastD 0 then .ok u.dropLast else .error .checksumMismatch

/-- 41_frame_codec.md R145 steps 3 to 5: the decoded bytes of a region that is not empty. -/
def decRegion (region : List Byte) : Except CodecError (List Byte) :=
  match unescape region with
  | .error e => .error e
  | .ok u => validate u

/-- 41_frame_codec.md R145: `dec(F)`. -/
def dec (f : List Byte) : Except CodecError (List Byte) :=
  if f.length ≤ 4 then .error .frameTooShort
  else match afterMarker (f.length - 4) f with
    | none => .error .markerNotFound
    | some rest => match beforeFlag1 rest with
      | none => .error .terminatorNotFound
      | some [] => .error .frameTooShort
      | some (x :: xs) => decRegion (x :: xs)

end Sys2Proof.Machine
end

