-- ==== Sys2Proof/Machine/Operands.lean ====
section
/-! DEFINITION. The operands of commands and accesses: LEN and RR (30_encoding.md R92), the input
slices A[0..LEN) and B[0..LEN), the pending request, the register words and window bytes of the host
address map (20_memory.md R70, R72). -/

namespace Sys2Proof.Machine

/-- `v[0..k)` of a buffer (00_scope.md R17). -/
def slice {n : Nat} (v : Vector Byte n) (k : Nat) : List Byte := v.toList.take k

/-- R92: for TXN_SEND, RR = ARG[0] is the reply-required flag. -/
def replyRequired (arg : Byte) : Bool := arg.getLsbD 0

/-- PEND_BUF[0..PEND_LEN), the pending request (10_state.md R36). -/
def State.pending (s : State) : List Byte := slice s.pendBuf s.pendLen.toNat

/-- X = PEND_BUF[0], the opcode of the pending request (10_state.md R36). -/
def State.pendOpcode (s : State) : Byte := s.pendBuf[0]

/-- RSM_BUF[0..RSM_LEN), the bytes accumulated (10_state.md R30). -/
def State.accumulated (s : State) : List Byte := slice s.rsmBuf s.rsmLen.toNat

end Sys2Proof.Machine
end

