-- ==== Sys2Proof/Machine/Ops.lean ====
section
/-! DEFINITION. The named operations over the state that the meanings share: writing a buffer from
index 0, issuing a command, drawing a seed, emitting on TX and PKT. -/

namespace Sys2Proof.Machine

/-- Writes `xs` into a buffer from index 0; the elements past `xs` keep their bytes, and nothing is
written past the buffer's end (20_memory.md R61). -/
def writeFront {n : Nat} (v : Vector Byte n) (xs : List Byte) : Vector Byte n :=
  ⟨(xs.take n ++ v.toList.drop xs.length).toArray, by
    simp only [List.size_toArray, List.length_append, List.length_take, List.length_drop,
      Vector.length_toList]
    omega⟩

/-- 44_control.md R253: a write of CMD stores the word before the command runs. -/
def State.issue (s : State) (w : Word) : State := { s with cmd := w }

/-- The result of a command: bytes to B from index 0, their number to OUT_LEN (10_state.md R24, R28). -/
def State.putOut (s : State) (xs : List Byte) : State :=
  { s with b := writeFront s.b xs, outLen := BitVec.ofNat 11 xs.length }

/-- 30_encoding.md R115: the value the next `Draw8()` returns: the next byte the random source has
ready, else a free value (log 6). -/
def State.draw (s : State) : Byte :=
  match s.entropyIn with
  | d :: _ => d
  | [] => Config.freeDraw s.drawCount

/-- The state after one `Draw8()`. -/
def State.afterDraw (s : State) : State :=
  match s.entropyIn with
  | _ :: rest => { s with entropyIn := rest }
  | [] => { s with drawCount := s.drawCount + 1 }

/-- 40_scrambler.md R125: the seed byte of the next draw. -/
def State.drawnSeed (s : State) : Byte := seedOfDraw s.draw

/-- 00_scope.md R18, `TxEmit(s)`. -/
def State.txEmit (s : State) (xs : List Byte) : State := { s with txOut := s.txOut ++ xs }

/-- 00_scope.md R18, `PktOut(cat, p)`. -/
def State.pktEmit (s : State) (cat : Category) (p : List Byte) : State :=
  { s with pktOut := s.pktOut ++ [⟨cat, p⟩] }

end Sys2Proof.Machine
end

