-- ==== Sys2Proof/Machine/Control.lean ====
section
/-! DEFINITION. NOP, COPY_B2A and the reserved opcodes (44_control.md R250 to R252). -/

namespace Sys2Proof.Machine

/-- NOP (R250). -/
def execNop (arg : Byte) (len : Len) (s : State) : Result :=
  .next ((s.issue (cmdWord 0x00 arg len)).setStatus OK)

/-- COPY_B2A (R252). -/
def execCopyB2a (arg : Byte) (len : Len) (s : State) : Result :=
  let s := s.issue (cmdWord 0x06 arg len)
  if len.toNat > Config.BUF_BYTES then .next (s.setStatus ERR_LEN)
  else .next ({ s with a := writeFront s.a (slice s.b len.toNat),
                       outLen := BitVec.ofNat 11 len.toNat }.setStatus OK)

/-- A word with a reserved opcode: ERR_BADCMD and nothing else (R251). -/
def State.badCommand (s : State) (w : Word) : State := (s.issue w).setStatus ERR_BADCMD

/-- Reserved, OP 0x07 (R251). -/
def execReserved07 (rest : BitVec 24) (s : State) : Result := .next (s.badCommand (0x07#8 ++ rest))

/-- Reserved, OP 0x0A to 0x0B (R251). -/
def execReserved0A (rest : BitVec 25) (s : State) : Result := .next (s.badCommand (0x05#7 ++ rest))

/-- Reserved, OP 0x0C to 0x0F (R251). -/
def execReserved0C (rest : BitVec 26) (s : State) : Result := .next (s.badCommand (0x03#6 ++ rest))

/-- Reserved, OP 0x10 to 0x1F (R251). -/
def execReserved10 (rest : BitVec 28) (s : State) : Result := .next (s.badCommand (0x1#4 ++ rest))

/-- Reserved, OP 0x20 to 0x3F (R251). -/
def execReserved20 (rest : BitVec 29) (s : State) : Result := .next (s.badCommand (0x1#3 ++ rest))

/-- Reserved, OP 0x40 to 0x7F (R251). -/
def execReserved40 (rest : BitVec 30) (s : State) : Result := .next (s.badCommand (0x1#2 ++ rest))

/-- Reserved, OP 0x80 to 0xFF (R251). -/
def execReserved80 (rest : BitVec 31) (s : State) : Result := .next (s.badCommand (0x1#1 ++ rest))

end Sys2Proof.Machine
end

