-- ==== Sys2Proof/Machine/Correlator.lean ====
section
/-! DEFINITION. The packet dispatcher and transaction correlator: Dispatch, TXN_SEND, TXN_ACK and
TIMEOUT (43_correlator.md R210 to R230). -/

namespace Sys2Proof.Machine

/-- `TxAttempt()` (R221). -/
def State.txAttempt (s : State) : State :=
  let seed := s.drawnSeed
  let s := { s.afterDraw with txcSeed := seed.setWidth 7 }
  match enc [seed] (scr s.params.key s.pending seed) with
  | .error e => s.finish e.code
  | .ok out => { s.txEmit out with txcState := .waitLoopback }

/-- `LoopbackOK()` (R214). -/
def State.loopbackOk (s : State) : State :=
  if s.replyReq = false ∨ s.replySeen = true then s.finish TXN_OK
  else { s with txcState := .waitReply }

/-- `CaptureReply(p)` (R213). -/
def State.captureReply (s : State) (p : List Byte) : State :=
  let t := { s with replyBuf := writeFront s.replyBuf p
                    replyLen := BitVec.ofNat 9 p.length
                    replySeen := true }
  if s.txcState = .waitReply then t.finish TXN_OK else t

/-- `Dispatch(p)` for `p = op :: args` (R211). -/
def State.dispatchPacket (s : State) (op : Byte) (args : List Byte) : State :=
  if s.txcState = .waitLoopback ∧ op = s.pendOpcode then
    if (op :: args).length = s.pendLen.toNat ∧ op :: args = s.pending then s.loopbackOk
    else s.finish TXN_LOOPBACK_MISMATCH
  else if s.waiting = true ∧ s.replyReq = true ∧ op = s.pendOpcode + 1 then
    s.captureReply (op :: args)
  else s.pktEmit (category op) (op :: args)

/-- DISPATCH (R211). -/
def execDispatch (op : Byte) (args : List Byte) (s : State) : Result :=
  .next (s.dispatchPacket op args)

/-- R220: the snapshot of the request A[0..LEN) and the start values of a transaction. -/
def State.beginTransaction (s : State) (arg : Byte) (len : Len) : State :=
  { s with pendBuf := writeFront s.pendBuf (slice s.a len.toNat)
           pendLen := BitVec.ofNat 9 len.toNat
           replyReq := replyRequired arg
           replySeen := false
           replyLen := 0
           attempt := 0
           result := NONE }

/-- TXN_SEND (R220). -/
def execTxnSend (arg : Byte) (len : Len) (s : State) : Result :=
  let s := s.issue (cmdWord 0x08 arg len)
  if s.txcState ≠ .idle then .next (s.setStatus ERR_BUSY)
  else if len.toNat < 1 ∨ len.toNat > Config.PEND_CAP then .next (s.setStatus ERR_LEN)
  else .next ((s.beginTransaction arg len).txAttempt.setStatus OK)

/-- TXN_ACK (R224). -/
def execTxnAck (arg : Byte) (len : Len) (s : State) : Result :=
  let s := s.issue (cmdWord 0x09 arg len)
  if s.txcState ≠ .done then .next (s.setStatus ERR_STATE)
  else .next ({ s with txcState := .idle }.setStatus OK)

/-- TIMEOUT (R226). -/
def execTimeout (s : State) : Result :=
  if s.waiting = false then .next s
  else if s.attempt.toNat < s.params.maxRetries.toNat then
    .next { s with attempt := s.attempt + 1, replySeen := false, replyLen := 0 }.txAttempt
  else .next (s.finish TXN_TIMEOUT)

end Sys2Proof.Machine
end

