-- ==== Sys2Proof/Machine/FrameCodec.lean ====
section
/-! DEFINITION. ENCODE, ENCODE_H and DECODE (41_frame_codec.md R152 to R154). -/

namespace Sys2Proof.Machine

/-- A codec result as the outcome of a command: the bytes to B and OUT_LEN with status OK, or the
error's code to STATUS and nothing else (R152 to R154, 44_control.md R254). -/
def State.reportCodec (s : State) : Except CodecError (List Byte) → State
  | .ok out => (s.putOut out).setStatus OK
  | .error e => s.setStatus e.code

/-- ENCODE (R152). -/
def execEncode (arg : Byte) (len : Len) (s : State) : Result :=
  let s := s.issue (cmdWord 0x03 arg len)
  if len.toNat > Config.MAX_PAYLOAD then .next (s.setStatus ENC_TOO_LONG)
  else .next (s.reportCodec (enc [] (slice s.a len.toNat)))

/-- ENCODE_H (R153). -/
def execEncodeH (hdr : Byte) (len : Len) (s : State) : Result :=
  let s := s.issue (cmdWord 0x04 hdr len)
  if len.toNat > Config.MAX_PAYLOAD then .next (s.setStatus ENC_TOO_LONG)
  else .next (s.reportCodec (enc [hdr] (slice s.a len.toNat)))

/-- DECODE (R154). -/
def execDecode (arg : Byte) (len : Len) (s : State) : Result :=
  let s := s.issue (cmdWord 0x05 arg len)
  if len.toNat > Config.BUF_BYTES then .next (s.setStatus ERR_LEN)
  else .next (s.reportCodec (dec (slice s.a len.toNat)))

end Sys2Proof.Machine
end

