-- ==== Sys2Proof/Machine/Scrambler.lean ====
section
/-! DEFINITION. SCRAMBLE and DESCRAMBLE (40_scrambler.md R122, R123). -/

namespace Sys2Proof.Machine

/-- SCRAMBLE (R122). -/
def execScramble (arg : Byte) (len : Len) (s : State) : Result :=
  let s := s.issue (cmdWord 0x01 arg len)
  if len.toNat > Config.BUF_BYTES then .next (s.setStatus ERR_LEN)
  else
    let out := scr s.params.key (slice s.a len.toNat) s.drawnSeed
    .next ({ s.afterDraw.putOut out with seed := s.drawnSeed.setWidth 7 }.setStatus OK)

/-- DESCRAMBLE (R123). -/
def execDescramble (seed : Byte) (len : Len) (s : State) : Result :=
  let s := s.issue (cmdWord 0x02 seed len)
  if len.toNat > Config.BUF_BYTES then .next (s.setStatus ERR_LEN)
  else .next ((s.putOut (scr s.params.key (slice s.a len.toNat) seed)).setStatus OK)

end Sys2Proof.Machine
end

