-- ==== Sys2Proof/Machine/HostAccess.lean ====
section
/-! DEFINITION. The HOST port: MemRead and MemWrite (20_memory.md R66 to R72), the register words
(R70), the buffer windows (R72), and the command frame of a CMD write (44_control.md R253). -/

namespace Sys2Proof.Machine

/-- RSM (10_state.md R32): RSM_STATE in [1:0], RSM_LEN in [16:8]. -/
def State.rsmWord (s : State) : Word := 0#15 ++ s.rsmLen ++ 0#6 ++ s.rsmState.code

/-- TXC (10_state.md R43): TXC_STATE [2:0], REPLY_REQ [8], REPLY_SEEN [9], IRQ [10], ATTEMPT
[15:12], RESULT [23:16]. -/
def State.txcWord (s : State) : Word :=
  0#8 ++ s.result ++ s.attempt ++ 0#1 ++ BitVec.ofBool s.irq ++ BitVec.ofBool s.replySeen
    ++ BitVec.ofBool s.replyReq ++ 0#5 ++ s.txcState.code

/-- PARAM (10_state.md R44): TXN_MAX_RETRIES in [3:0], KEY_LEN in [15:8]. -/
def State.paramWord (s : State) : Word :=
  0#16 ++ BitVec.ofNat 8 Config.KEY_LEN ++ 0#4 ++ BitVec.ofNat 4 s.params.maxRetries.toNat

/-- R70, R71: the word a 4-byte read of a register slot returns; every other address reads 0. -/
def State.registerWord (s : State) (addr : Nat) : Word :=
  if addr = 0x000 then s.cmd
  else if addr = 0x004 then s.status.setWidth 32
  else if addr = 0x008 then s.outLen.setWidth 32
  else if addr = 0x00C then s.seed.setWidth 32
  else if addr = 0x010 then (BitVec.ofBool s.irqEn).setWidth 32
  else if addr = 0x014 then s.rsmWord
  else if addr = 0x018 then s.rxLast.setWidth 32
  else if addr = 0x01C then s.rxOkCnt
  else if addr = 0x020 then s.rxStructCnt
  else if addr = 0x024 then s.rxCksumCnt
  else if addr = 0x028 then s.rxOvfCnt
  else if addr = 0x02C then s.txcWord
  else if addr = 0x030 then s.txcSeed.setWidth 32
  else if addr = 0x034 then s.pendLen.setWidth 32
  else if addr = 0x038 then s.replyLen.setWidth 32
  else if addr = 0x03C then s.paramWord
  else 0

/-- The byte of a buffer whose window begins at `base`, if the address lies in that window. -/
def windowAt {n : Nat} (base : Nat) (v : Vector Byte n) (addr : Nat) : Option Byte :=
  if base ≤ addr then v[addr - base]? else none

/-- R72: the byte a 1-byte read returns; an address outside every window reads 0 (R68). -/
def State.windowByte (s : State) (addr : Nat) : Byte :=
  ((windowAt 0x1000 s.a addr).or <|
    (windowAt 0x1400 s.b addr).or <|
    (windowAt 0x1800 s.rsmBuf addr).or <|
    (windowAt 0x1900 s.pendBuf addr).or <|
    (windowAt 0x1A00 s.replyBuf addr).or <|
    windowAt 0x1B00 s.params.key addr).getD 0

/-- R66: what MemRead returns, as a 32-bit value (log 12). -/
def State.hostRead (s : State) (addr : Addr) : Width → Word
  | .word => s.registerWord addr.toNat
  | .byte => (s.windowByte addr.toNat).setWidth 32

/-- MemRead (R66, R69): the result goes to the host, and nothing else changes. -/
def execMemRead (addr : Addr) (n : Width) (s : State) : Result :=
  .next { s with hostReads := s.hostReads ++ [s.hostRead addr n] }

/-- 44_control.md R253: the command that a write of `w` to CMD runs. -/
def runCommand (w : Word) (s : State) : Result :=
  let arg := cmdArg w
  let len := cmdLen w
  if cmdOp w = 0x00 then execNop arg len s
  else if cmdOp w = 0x01 then execScramble arg len s
  else if cmdOp w = 0x02 then execDescramble arg len s
  else if cmdOp w = 0x03 then execEncode arg len s
  else if cmdOp w = 0x04 then execEncodeH arg len s
  else if cmdOp w = 0x05 then execDecode arg len s
  else if cmdOp w = 0x06 then execCopyB2a arg len s
  else if cmdOp w = 0x08 then execTxnSend arg len s
  else if cmdOp w = 0x09 then execTxnAck arg len s
  else .next (s.badCommand w)

/-- R66: a 1-byte write to window A stores its byte; any other 1-byte write has no effect. -/
def State.writeByte (s : State) (addr : Nat) (v : Byte) : State :=
  if 0x1000 ≤ addr then { s with a := s.a.setIfInBounds (addr - 0x1000) v } else s

/-- MemWrite (R66, R67, R69). -/
def execMemWrite (addr : Addr) (n : Width) (v : Word) (s : State) : Result :=
  match n with
  | .word =>
    if addr.toNat = 0x000 then runCommand v s
    else if addr.toNat = 0x010 then .next { s with irqEn := v.getLsbD 0 }
    else .next s
  | .byte => .next (s.writeByte addr.toNat (v.setWidth 8))

end Sys2Proof.Machine
end

