-- ==== Sys2Proof/Machine/Packets.lean ====
section
/-! DEFINITION. The packet opcodes of 30_encoding.md R105 and R108: the dispatch of an application
packet that begins with the opcode (43_correlator.md R211). Which category the packet gets, when no
transaction takes it, is `category` (R108). -/

namespace Sys2Proof.Machine

/-- A packet with opcode 0x11 (R108, 43_correlator.md R211). -/
def execPkt11 (args : List Byte) (s : State) : Result := .next (s.dispatchPacket 0x11 args)

/-- A packet with opcode 0x12 (R108, 43_correlator.md R211). -/
def execPkt12 (args : List Byte) (s : State) : Result := .next (s.dispatchPacket 0x12 args)

/-- A packet with opcode 0x13 (R108, 43_correlator.md R211). -/
def execPkt13 (args : List Byte) (s : State) : Result := .next (s.dispatchPacket 0x13 args)

/-- A packet with opcode 0x15 (R108, 43_correlator.md R211). -/
def execPkt15 (args : List Byte) (s : State) : Result := .next (s.dispatchPacket 0x15 args)

/-- A packet with opcode 0x16 (R108, 43_correlator.md R211). -/
def execPkt16 (args : List Byte) (s : State) : Result := .next (s.dispatchPacket 0x16 args)

/-- A packet with opcode 0x6A (R108, 43_correlator.md R211). -/
def execPkt6A (args : List Byte) (s : State) : Result := .next (s.dispatchPacket 0x6A args)

/-- A packet with opcode 0x6B (R108, 43_correlator.md R211). -/
def execPkt6B (args : List Byte) (s : State) : Result := .next (s.dispatchPacket 0x6B args)

/-- A packet with opcode 0x6C (R108, 43_correlator.md R211). -/
def execPkt6C (args : List Byte) (s : State) : Result := .next (s.dispatchPacket 0x6C args)

/-- A packet with opcode 0x6D (R108, 43_correlator.md R211). -/
def execPkt6D (args : List Byte) (s : State) : Result := .next (s.dispatchPacket 0x6D args)

/-- A packet with opcode 0x70 (R108, 43_correlator.md R211). -/
def execPkt70 (args : List Byte) (s : State) : Result := .next (s.dispatchPacket 0x70 args)

/-- A packet with opcode 0x71 (R108, 43_correlator.md R211). -/
def execPkt71 (args : List Byte) (s : State) : Result := .next (s.dispatchPacket 0x71 args)

/-- A packet with opcode 0x72 (R108, 43_correlator.md R211). -/
def execPkt72 (args : List Byte) (s : State) : Result := .next (s.dispatchPacket 0x72 args)

/-- A packet with opcode 0x73 (R108, 43_correlator.md R211). -/
def execPkt73 (args : List Byte) (s : State) : Result := .next (s.dispatchPacket 0x73 args)

/-- A packet with opcode 0x74 (R108, 43_correlator.md R211). -/
def execPkt74 (args : List Byte) (s : State) : Result := .next (s.dispatchPacket 0x74 args)

/-- A packet with opcode 0x75 (R108, 43_correlator.md R211). -/
def execPkt75 (args : List Byte) (s : State) : Result := .next (s.dispatchPacket 0x75 args)

/-- A packet with opcode 0x76 (R108, 43_correlator.md R211). -/
def execPkt76 (args : List Byte) (s : State) : Result := .next (s.dispatchPacket 0x76 args)

/-- A packet with opcode 0x77 (R108, 43_correlator.md R211). -/
def execPkt77 (args : List Byte) (s : State) : Result := .next (s.dispatchPacket 0x77 args)

/-- A packet with opcode 0x7C (R108, 43_correlator.md R211). -/
def execPkt7C (args : List Byte) (s : State) : Result := .next (s.dispatchPacket 0x7C args)

/-- A packet with opcode 0x7D (R108, 43_correlator.md R211). -/
def execPkt7D (args : List Byte) (s : State) : Result := .next (s.dispatchPacket 0x7D args)

/-- A packet with opcode 0x80 (R108, 43_correlator.md R211). -/
def execPkt80 (args : List Byte) (s : State) : Result := .next (s.dispatchPacket 0x80 args)

/-- A packet with opcode 0x81 (R108, 43_correlator.md R211). -/
def execPkt81 (args : List Byte) (s : State) : Result := .next (s.dispatchPacket 0x81 args)

/-- A packet with opcode 0x82 (R108, 43_correlator.md R211). -/
def execPkt82 (args : List Byte) (s : State) : Result := .next (s.dispatchPacket 0x82 args)

/-- A packet with opcode 0x83 (R108, 43_correlator.md R211). -/
def execPkt83 (args : List Byte) (s : State) : Result := .next (s.dispatchPacket 0x83 args)

/-- A packet with opcode 0x84 (R108, 43_correlator.md R211). -/
def execPkt84 (args : List Byte) (s : State) : Result := .next (s.dispatchPacket 0x84 args)

/-- A packet with opcode 0x85 (R108, 43_correlator.md R211). -/
def execPkt85 (args : List Byte) (s : State) : Result := .next (s.dispatchPacket 0x85 args)

/-- A packet with any other opcode (R108, 43_correlator.md R211). -/
def execPktOther (op : Byte) (args : List Byte) (s : State) : Result :=
  .next (s.dispatchPacket op args)

end Sys2Proof.Machine
end

