-- ==== Sys2Proof/Machine/Reassembler.lean ====
section
/-! DEFINITION. The stream reassembler: RX_BYTE (42_reassembler.md R183 to R190). -/

namespace Sys2Proof.Machine

/-- `start` of R191: RSM_BUF[0] <- 0x7E, RSM_LEN <- 1, WAIT_FLAG2 (R184, R186, R189). -/
def State.startFrame (s : State) : State :=
  { s with rsmBuf := s.rsmBuf.set 0 FLAG1, rsmLen := 1, rsmState := .waitFlag2 }

/-- The reassembler back in WAIT_FLAG1 with length 0 (R185, R188, R190). -/
def State.idleFrame (s : State) : State := { s with rsmState := .waitFlag1, rsmLen := 0 }

/-- `append(b)` of R191. There is no element at RSM_LEN above 255 (20_memory.md R61, log 11). -/
def State.append? (s : State) (b : Byte) : Option State :=
  if h : s.rsmLen.toNat < Config.ACC_CAP then
    some { s with rsmBuf := s.rsmBuf.set s.rsmLen.toNat b, rsmLen := s.rsmLen + 1 }
  else none

/-- R188: a frame decoded to `seed` and the scrambled packet `scrambled`. -/
def State.acceptFrame (s : State) (seed : Byte) (scrambled : List Byte) : State :=
  let s := { s with rxOkCnt := s.rxOkCnt + 1 }
  match scr s.params.key scrambled seed with
  | [] => { s with rxLast := RX_EMPTY }.idleFrame
  | op :: args => ({ s with rxLast := RX_OK }.dispatchPacket op args).idleFrame

/-- R187: decodes the accumulated frame, then R188 or R189. -/
def State.completeFrame (s : State) : Result :=
  match dec s.accumulated with
  | .ok (seed :: scrambled) => .next (s.acceptFrame seed scrambled)
  | .ok [] => .fault .stuckNoSeed
  | .error e => .next (s.logBadFrame e).startFrame

/-- R190: the overflow check after an append. -/
def State.checkOverflow (s : State) : State :=
  if s.rsmLen.toNat = Config.ACC_CAP then s.logOverflow.idleFrame else s

/-- RX_BYTE in WAIT_FLAG1 (R184). -/
def rxWaitFlag1 (b : Byte) (s : State) : Result :=
  if b = FLAG1 then .next s.startFrame else .next s

/-- RX_BYTE in WAIT_FLAG2 (R185). -/
def rxWaitFlag2 (b : Byte) (s : State) : Result :=
  if b = FLAG2 then
    match s.append? FLAG2 with
    | some t => .next { t with rsmState := .waitTerminator }
    | none => .fault .stuckRsmLen
  else if b = FLAG1 then .next s
  else .next s.idleFrame

/-- RX_BYTE in WAIT_TERMINATOR (R186, R187, R190). -/
def rxWaitTerminator (b : Byte) (s : State) : Result :=
  if b = FLAG1 ∧ s.rsmLen.toNat < 4 then .next s.startFrame
  else match s.append? b with
    | none => .fault .stuckRsmLen
    | some t => if b = FLAG1 then t.completeFrame else .next t.checkOverflow

/-- RX_BYTE (R183). -/
def execRxByte (b : Byte) (s : State) : Result :=
  match s.rsmState with
  | .waitFlag1 => rxWaitFlag1 b s
  | .waitFlag2 => rxWaitFlag2 b s
  | .waitTerminator => rxWaitTerminator b s

end Sys2Proof.Machine
end

