-- ==== Sys2Proof/Machine/System.lean ====
section
/-! DEFINITION. RESET (70_reset_and_hazards.md R310). -/

namespace Sys2Proof.Machine

/-- R310: every register at its reset value, every buffer byte a fresh draw (log 7); the streams and
the environment's lists stay (log 8, log 14). -/
def State.afterReset (s : State) : State :=
  let n := s.resetCount + 1
  { s with
    cmd := 0, status := OK, outLen := 0, seed := 0, irqEn := false
    a := resetBuffer n 0x1000 Config.BUF_BYTES
    b := resetBuffer n 0x1400 Config.BUF_BYTES
    rsmState := .waitFlag1, rsmLen := 0
    rsmBuf := resetBuffer n 0x1800 Config.ACC_CAP
    rxLast := 0, rxOkCnt := 0, rxStructCnt := 0, rxCksumCnt := 0, rxOvfCnt := 0
    txcState := .idle, result := NONE, attempt := 0, txcSeed := 0
    pendLen := 0
    pendBuf := resetBuffer n 0x1900 Config.PEND_CAP
    replyReq := false, replySeen := false, replyLen := 0
    replyBuf := resetBuffer n 0x1A00 Config.REPLY_CAP
    resetCount := n }

/-- RESET (R310, R311). -/
def execReset (s : State) : Result := .next s.afterReset

end Sys2Proof.Machine
end

