-- ==== Sys2Proof/Machine/Dispatch.lean ====
section
/-! DEFINITION. The meaning of each operation, one arm per constructor of Instr. -/

namespace Sys2Proof.Machine

def exec (i : Instr) (s : State) : Host.Outcome State Fault Refusal :=
  match i with
  | .nop a l => Sys2Proof.Machine.execNop a l s
  | .scramble a l => Sys2Proof.Machine.execScramble a l s
  | .descramble a l => Sys2Proof.Machine.execDescramble a l s
  | .encode a l => Sys2Proof.Machine.execEncode a l s
  | .encodeH a l => Sys2Proof.Machine.execEncodeH a l s
  | .decode a l => Sys2Proof.Machine.execDecode a l s
  | .copyB2a a l => Sys2Proof.Machine.execCopyB2a a l s
  | .reserved07 r => Sys2Proof.Machine.execReserved07 r s
  | .txnSend a l => Sys2Proof.Machine.execTxnSend a l s
  | .txnAck a l => Sys2Proof.Machine.execTxnAck a l s
  | .reserved0A r => Sys2Proof.Machine.execReserved0A r s
  | .reserved0C r => Sys2Proof.Machine.execReserved0C r s
  | .reserved10 r => Sys2Proof.Machine.execReserved10 r s
  | .reserved20 r => Sys2Proof.Machine.execReserved20 r s
  | .reserved40 r => Sys2Proof.Machine.execReserved40 r s
  | .reserved80 r => Sys2Proof.Machine.execReserved80 r s
  | .rxByte b => Sys2Proof.Machine.execRxByte b s
  | .timeout => Sys2Proof.Machine.execTimeout s
  | .reset => Sys2Proof.Machine.execReset s
  | .dispatch op args => Sys2Proof.Machine.execDispatch op args s
  | .memRead addr n => Sys2Proof.Machine.execMemRead addr n s
  | .memWrite addr n v => Sys2Proof.Machine.execMemWrite addr n v s
  | .pkt11 args => Sys2Proof.Machine.execPkt11 args s
  | .pkt12 args => Sys2Proof.Machine.execPkt12 args s
  | .pkt13 args => Sys2Proof.Machine.execPkt13 args s
  | .pkt15 args => Sys2Proof.Machine.execPkt15 args s
  | .pkt16 args => Sys2Proof.Machine.execPkt16 args s
  | .pkt6A args => Sys2Proof.Machine.execPkt6A args s
  | .pkt6B args => Sys2Proof.Machine.execPkt6B args s
  | .pkt6C args => Sys2Proof.Machine.execPkt6C args s
  | .pkt6D args => Sys2Proof.Machine.execPkt6D args s
  | .pkt70 args => Sys2Proof.Machine.execPkt70 args s
  | .pkt71 args => Sys2Proof.Machine.execPkt71 args s
  | .pkt72 args => Sys2Proof.Machine.execPkt72 args s
  | .pkt73 args => Sys2Proof.Machine.execPkt73 args s
  | .pkt74 args => Sys2Proof.Machine.execPkt74 args s
  | .pkt75 args => Sys2Proof.Machine.execPkt75 args s
  | .pkt76 args => Sys2Proof.Machine.execPkt76 args s
  | .pkt77 args => Sys2Proof.Machine.execPkt77 args s
  | .pkt7C args => Sys2Proof.Machine.execPkt7C args s
  | .pkt7D args => Sys2Proof.Machine.execPkt7D args s
  | .pkt80 args => Sys2Proof.Machine.execPkt80 args s
  | .pkt81 args => Sys2Proof.Machine.execPkt81 args s
  | .pkt82 args => Sys2Proof.Machine.execPkt82 args s
  | .pkt83 args => Sys2Proof.Machine.execPkt83 args s
  | .pkt84 args => Sys2Proof.Machine.execPkt84 args s
  | .pkt85 args => Sys2Proof.Machine.execPkt85 args s
  | .pktOther op args => Sys2Proof.Machine.execPktOther op args s

end Sys2Proof.Machine
end

