-- ==== Sys2Proof/Machine/Step.lean ====
section
/-! DEFINITION. One step: the next event of the environment is taken, decoded and run
(00_scope.md R10, 20_memory.md R74). -/

namespace Sys2Proof.Machine

/-- One whole operation. With no event pending the FCC keeps its state (60_exceptions.md R289,
log 3); an event whose bytes are none of its port's is refused (log 4). -/
def step (s : State) : Host.Outcome State Fault Refusal :=
  match s.inputs with
  | [] => .next s
  | e :: rest =>
    match decode e with
    | .ok i => exec i { s with inputs := rest }
    | .error r => .refused (.notAnEvent r)

/-- The state with the instruction of a table word as its next event (log 10). -/
def State.withFetchWord (s : State) (nbits w : Nat) : State :=
  { s with inputs := tableEvent nbits w :: s.inputs }

end Sys2Proof.Machine
end

