-- ==== Sys2Proof/Safety.lean ====
section
/-! DEFINITION. The invariants of the spec (10_state.md R52, R53; 60_exceptions.md R270) and the
words in which claims speak of runs: a sequence of operations, a stream of received bytes, the
command word an operation issues. Each invariant is a decidable statement about plain data. -/

namespace Sys2Proof.Machine

/-! ### Invariants -/

/-- 10_state.md R52: the reassembler's state, length and buffer agree. -/
abbrev RsmInv (s : State) : Prop :=
  (s.rsmState = .waitFlag1 → s.rsmLen = 0) ∧
  (s.rsmState = .waitFlag2 → s.rsmLen = 1 ∧ s.rsmBuf[0] = 0x7E) ∧
  (s.rsmState = .waitTerminator →
    2 ≤ s.rsmLen.toNat ∧ s.rsmLen.toNat ≤ 255 ∧ s.rsmBuf[0] = 0x7E ∧ s.rsmBuf[1] = 0xFF ∧
    ∀ x ∈ (s.rsmBuf.toList.take s.rsmLen.toNat).drop 2, x ≠ 0x7E)

/-- 10_state.md R53: the correlator's fields agree; the last two lines are what its last clause
(RESULT is NONE until an outcome) says of a single state. -/
abbrev TxcInv (s : State) : Prop :=
  (s.txcState ≠ .idle → 1 ≤ s.pendLen.toNat ∧ s.pendLen.toNat ≤ 256) ∧
  (s.txcState = .waitReply → s.replyReq = true ∧ s.replySeen = false) ∧
  (s.replySeen = true → s.replyReq = true) ∧
  s.attempt.toNat ≤ s.params.maxRetries.toNat ∧
  (s.txcState = .waitLoopback ∨ s.txcState = .waitReply → s.result = 0x00) ∧
  (s.txcState = .done → s.result ≠ 0x00)

/-- 60_exceptions.md R270: the codes STATUS can hold. -/
def statusCodes : List (BitVec 8) :=
  [0x00, 0x01, 0x02, 0x03, 0x04, 0x05, 0x06, 0x10, 0x11, 0x12, 0x13, 0x14]
/-- 60_exceptions.md R270: the codes RX_LAST can hold; 0x10, 0x11 and 0x12 never occur there
(42_reassembler.md R193). -/
def rxCodes : List (BitVec 8) := [0x00, 0x13, 0x14, 0x15, 0x20, 0x21]
/-- 60_exceptions.md R270: the codes RESULT can hold. -/
def resultCodes : List (BitVec 8) := [0x00, 0x06, 0x30, 0x31, 0x32]

/-- 60_exceptions.md R270: each code register holds one of its own codes. -/
abbrev CodesInv (s : State) : Prop :=
  s.status ∈ statusCodes ∧ s.rxLast ∈ rxCodes ∧ s.result ∈ resultCodes

/-- The lengths stay in range (10_state.md R24, R39; 42_reassembler.md R192), and every packet
emitted so far has 1 to 251 bytes and the category of its first byte (30_encoding.md R117, R108). -/
abbrev LengthsInv (s : State) : Prop :=
  s.outLen.toNat ≤ 1024 ∧ s.replyLen.toNat ≤ 251 ∧
  ∀ e ∈ s.pktOut, 1 ≤ e.packet.length ∧ e.packet.length ≤ 251 ∧
    e.cat = category (e.packet.headD 0)

/-- The state is one that runs can reach, as far as the spec's invariants tell. -/
abbrev Inv (s : State) : Prop := RsmInv s ∧ TxcInv s ∧ CodesInv s ∧ LengthsInv s

/-- Whether a transaction has reached DONE since the last accepted TXN_SEND or RESET, after an
operation from `s` to `t`, when `before` tells it of `s` (the history R53 speaks of). -/
def outcomeSince (i : Instr) (s t : State) (before : Bool) : Bool :=
  if t.txcState = .done then true
  else if i = .reset then false
  else if s.txcState = .idle ∧ t.txcState ≠ .idle then false
  else before

/-! ### Runs -/

/-- The operations of `is` one after the other, up to the first that does not end normally. -/
def runInstrs : List Instr → State → Result
  | [], s => .next s
  | i :: is, s =>
    match exec i s with
    | .next t => runInstrs is t
    | .fault r => .fault r
    | .refused r => .refused r

/-- The bytes of `bs` received in order (20_memory.md R75). -/
def feed (bs : List Byte) (s : State) : Result := runInstrs (bs.map .rxByte) s

end Sys2Proof.Machine

/-! ### Which operations are commands -/

namespace Sys2Proof

/-- The word an operation writes to CMD: a command's own word, or the value of a host word write at
address 0x000 (30_encoding.md R90). -/
def Instr.issuedWord? (i : Instr) : Option Word :=
  match i with
  | .memWrite addr .word v => if addr = 0 then some v else none
  | i => i.commandWord?

/-- The operation runs the command with opcode `op`. -/
def Instr.runsOp (i : Instr) (op : Byte) : Bool :=
  match i.issuedWord? with
  | some w => cmdOp w = op
  | none => false

/-- The operation delivers bytes to the receive side: RX_BYTE or the dispatch of a packet. -/
def Instr.receives : Instr → Bool
  | .rxByte _ => true
  | i => i.packet?.isSome

end Sys2Proof
end

