-- ==== Sys2Proof/Certificates/Slice0/Obligations.lean ====
section
/-! DEFINITION. The statements about the FCC, from the spec's numbered rules, and the plain forms of
the spec's tables and pseudocode in which they are written (no function of the machine's codec is
used in those forms). Nothing here is proved. -/

open Sys2Proof Sys2Proof.Machine

namespace Sys2Proof.Form

/-! ### The spec's own forms -/

/-- The sixteen command rows of the opcode table, as mask and match (30_encoding.md R94, R95). -/
def commandRows : List (Word × Word) :=
  [(0xFF000000, 0x00000000), (0xFF000000, 0x01000000), (0xFF000000, 0x02000000),
   (0xFF000000, 0x03000000), (0xFF000000, 0x04000000), (0xFF000000, 0x05000000),
   (0xFF000000, 0x06000000), (0xFF000000, 0x07000000), (0xFF000000, 0x08000000),
   (0xFF000000, 0x09000000), (0xFE000000, 0x0A000000), (0xFC000000, 0x0C000000),
   (0xF0000000, 0x10000000), (0xE0000000, 0x20000000), (0xC0000000, 0x40000000),
   (0x80000000, 0x80000000)]

/-- The place of a command's row in `commandRows`. -/
def rowOf : Instr → Option Nat
  | .nop _ _ => some 0
  | .scramble _ _ => some 1
  | .descramble _ _ => some 2
  | .encode _ _ => some 3
  | .encodeH _ _ => some 4
  | .decode _ _ => some 5
  | .copyB2a _ _ => some 6
  | .reserved07 _ => some 7
  | .txnSend _ _ => some 8
  | .txnAck _ _ => some 9
  | .reserved0A _ => some 10
  | .reserved0C _ => some 11
  | .reserved10 _ => some 12
  | .reserved20 _ => some 13
  | .reserved40 _ => some 14
  | .reserved80 _ => some 15
  | _ => none

/-- 30_encoding.md R97: `(OP << 24) | (ARG << 16) | LEN`. -/
def assembled (op arg : Byte) (len : Len) : Word :=
  (op.setWidth 32 <<< 24) ||| (arg.setWidth 32 <<< 16) ||| len.setWidth 32

/-- KEY[(s + i) mod 64] (40_scrambler.md R120). -/
def keyAt (key : Vector Byte 64) (seed : Byte) (i : Nat) : Byte :=
  key[(seed.toNat + i) % 64]'(Nat.mod_lt _ (by decide))

/-- 40_scrambler.md R121: dst[i] = src[i] XOR KEY[(s + i) mod 64]. -/
def scrambled (key : Vector Byte 64) (src : List Byte) (seed : Byte) : List Byte :=
  src.zipIdx.map fun (x, i) => x ^^^ keyAt key seed i

/-- 30_encoding.md R100: the escape map E. -/
def wireForm (x : Byte) : List Byte :=
  if x = 0x7E then [0x7D, 0x5E] else if x = 0x7D then [0x7D, 0x5D] else [x]

/-- 00_scope.md R18: the sum of the bytes mod 256. -/
def byteSum (xs : List Byte) : Byte := BitVec.ofNat 8 (xs.map BitVec.toNat).sum

/-- 30_encoding.md R99: the wire frame of a header and a payload. -/
def wireFrame (h p : List Byte) : List Byte :=
  [0x7E, 0x7E, 0xFF] ++ (h ++ p).flatMap wireForm ++ wireForm (byteSum (h ++ p)) ++ [0x7E]

/-- The same frame around data `d` with a checksum byte of its own. -/
def frameWithSum (d : List Byte) (c : Byte) : List Byte :=
  [0x7E, 0x7E, 0xFF] ++ d.flatMap wireForm ++ wireForm c ++ [0x7E]

/-- 30_encoding.md R101: how many of the header, payload and checksum bytes need a pair. -/
def escapes (h p : List Byte) : Nat :=
  (h ++ p ++ [byteSum (h ++ p)]).countP fun x => x = 0x7E ∨ x = 0x7D

/-- 41_frame_codec.md R145 step 3, the loop: `j` runs from the region start to `t`; at most `fuel`
rounds. -/
def scanRegion (f : List Byte) (t : Nat) : Nat → Nat → List Byte → Except CodecError (List Byte)
  | 0, _, u => .ok u
  | fuel + 1, j, u =>
    if j < t then
      if f[j]? = some 0x7D then
        if j + 1 = t then .error .invalidEscape
        else if f[j + 1]? = some 0x5E then scanRegion f t fuel (j + 2) (u ++ [0x7E])
        else if f[j + 1]? = some 0x5D then scanRegion f t fuel (j + 2) (u ++ [0x7D])
        else .error .invalidEscape
      else scanRegion f t fuel (j + 1) (u ++ [f.getD j 0])
    else .ok u

/-- 41_frame_codec.md R145, `dec(F)` as the spec writes it, with indices into F. -/
def decodeByIndex (f : List Byte) : Except CodecError (List Byte) :=
  if f.length ≤ 4 then .error .frameTooShort
  else
    match (List.range (f.length - 4)).find? fun k => f[k]? = some 0x7E ∧ f[k + 1]? = some 0xFF with
    | none => .error .markerNotFound
    | some i =>
      match (List.range f.length).find? fun k => i + 2 ≤ k ∧ f[k]? = some 0x7E with
      | none => .error .terminatorNotFound
      | some t =>
        if t = i + 2 then .error .frameTooShort
        else
          match scanRegion f t f.length (i + 2) [] with
          | .error e => .error e
          | .ok u =>
            if byteSum (u.take (u.length - 1)) = u.getD (u.length - 1) 0
            then .ok (u.take (u.length - 1)) else .error .checksumMismatch

/-- 20_memory.md R70, R71: what a 4-byte read of each address returns, as a number. -/
def registerValue (s : State) (addr : Nat) : Nat :=
  match addr with
  | 0x000 => s.cmd.toNat
  | 0x004 => s.status.toNat
  | 0x008 => s.outLen.toNat
  | 0x00C => s.seed.toNat
  | 0x010 => s.irqEn.toNat
  | 0x014 => s.rsmState.code.toNat + 0x100 * s.rsmLen.toNat
  | 0x018 => s.rxLast.toNat
  | 0x01C => s.rxOkCnt.toNat
  | 0x020 => s.rxStructCnt.toNat
  | 0x024 => s.rxCksumCnt.toNat
  | 0x028 => s.rxOvfCnt.toNat
  | 0x02C => s.txcState.code.toNat + 0x100 * s.replyReq.toNat + 0x200 * s.replySeen.toNat
      + 0x400 * (s.irqEn && s.txcState = .done).toNat + 0x1000 * s.attempt.toNat
      + 0x10000 * s.result.toNat
  | 0x030 => s.txcSeed.toNat
  | 0x034 => s.pendLen.toNat
  | 0x038 => s.replyLen.toNat
  | 0x03C => s.params.maxRetries.toNat + 0x100 * 64
  | _ => 0

/-- 30_encoding.md R108: the category code of an opcode, as its table gives it. -/
def categoryCode (op : Byte) : Nat :=
  if op = 0x11 then 1
  else if op = 0x12 then 2
  else if op = 0x13 then 3
  else if op = 0x15 then 4
  else if op = 0x16 then 5
  else if op ∈ [0x6A, 0x6B, 0x6C, 0x6D, 0x76, 0x77, 0x7C, 0x7D, 0x80, 0x81, 0x82, 0x83, 0x84, 0x85]
  then 6
  else if op ∈ [0x70, 0x71, 0x72, 0x73, 0x74, 0x75] then 7
  else 0

/-- The receive path's part of a delivered packet: dispatched, unless it is empty
(42_reassembler.md R188). -/
def deliver (p : List Byte) (s : State) : Result :=
  match p with
  | [] => .next s
  | op :: args => exec (.dispatch op args) s

/-- The RX_LAST code of a delivered packet (42_reassembler.md R188). -/
def deliveredCode (p : List Byte) : BitVec 8 := if p = [] then 0x21 else 0x20

end Sys2Proof.Form

open Sys2Proof.Form

/-! ### Encoding -/

/-- 30_encoding.md R91, R94, R105: no bit of an operation is lost in its event. The bytes of the
events other than command words are the model's own (log 2). -/
def Obligations.DecodeOfEncodeIsIdentity : Prop :=
  ∀ i : Instr, i.wellFormed = true → decode (encode i) = .ok i

/-- Every event that decodes is the encoding of the well-formed operation it decodes to (log 2). -/
def Obligations.EncodeOfDecodeIsIdentity : Prop :=
  ∀ (e : Event) (i : Instr), decode e = .ok i → i.wellFormed = true ∧ encode i = e

/-- 30_encoding.md R94, R95: every word is a word of exactly one row, and decodes to it. -/
def Obligations.EveryWordIsOneCommandRow : Prop :=
  ∀ w : Word, ∃ k r, commandRows[k]? = some r ∧ w &&& r.1 = r.2 ∧
    rowOf (decodeCommand w) = some k ∧
    ∀ k' r', commandRows[k']? = some r' → w &&& r'.1 = r'.2 → k' = k

/-- 30_encoding.md R91, R97: the word of a command, and the decoding of that word. -/
def Obligations.CommandsAssembleAndDecode : Prop :=
  ∀ (arg : Byte) (len : Len),
    decodeCommand (assembled 0x00 arg len) = .nop arg len ∧
    decodeCommand (assembled 0x01 arg len) = .scramble arg len ∧
    decodeCommand (assembled 0x02 arg len) = .descramble arg len ∧
    decodeCommand (assembled 0x03 arg len) = .encode arg len ∧
    decodeCommand (assembled 0x04 arg len) = .encodeH arg len ∧
    decodeCommand (assembled 0x05 arg len) = .decode arg len ∧
    decodeCommand (assembled 0x06 arg len) = .copyB2a arg len ∧
    decodeCommand (assembled 0x08 arg len) = .txnSend arg len ∧
    decodeCommand (assembled 0x09 arg len) = .txnAck arg len ∧
    (Instr.txnSend arg len).commandWord? = some (assembled 0x08 arg len)

/-- A few words of the opcode table and of 95_test_vectors.md, written out. The command words are the
spec's (30_encoding.md R94). That a table word is read by `decodeTableWord`, and that an 8-bit row is
a packet of that one opcode byte, an operation of its own, is the model's choice (log 10, log 9). -/
def Obligations.TableWordsDecode : Prop :=
  decodeTableWord 32 0x00ABCDEF = some (.nop 0xAB 0xCDEF) ∧
  decodeTableWord 32 0x01000042 = some (.scramble 0 66) ∧
  decodeTableWord 32 0x02D00002 = some (.descramble 0xD0 2) ∧
  decodeTableWord 32 0x03000101 = some (.encode 0 257) ∧
  decodeTableWord 32 0x04100005 = some (.encodeH 0x10 5) ∧
  decodeTableWord 32 0x05000401 = some (.decode 0 1025) ∧
  decodeTableWord 32 0x0600000B = some (.copyB2a 0 11) ∧
  decodeTableWord 32 0x07000000 = some (.reserved07 0) ∧
  decodeTableWord 32 0x08010005 = some (.txnSend 1 5) ∧
  decodeTableWord 32 0x09000000 = some (.txnAck 0 0) ∧
  decodeTableWord 32 0x0A000000 = some (.reserved0A 0) ∧
  decodeTableWord 32 0xFF123456 = some (.reserved80 0x7F123456) ∧
  decodeTableWord 8 0x11 = some (.pkt11 []) ∧
  decodeTableWord 8 0x7D = some (.pkt7D []) ∧
  decodeTableWord 8 0x14 = some (.pktOther 0x14 [])

/-! ### The step -/

/-- 20_memory.md R74, 00_scope.md R10: a step is the operation of the next event, taken off the
pending events; no event leaves the state as it is, bytes that are no event are refused, and
`withFetchWord` puts a table word's event next (the model's forms: log 1, log 3, log 4, and log 10 for
the last clause). -/
def Obligations.StepRunsTheNextEvent : Prop :=
  (∀ (s : State) (e : Event) (rest : List Event) (i : Instr),
    s.inputs = e :: rest → decode e = .ok i → step s = exec i { s with inputs := rest }) ∧
  (∀ (s : State) (e : Event) (rest : List Event) (r : DecodeError),
    s.inputs = e :: rest → decode e = .error r → step s = .refused (.notAnEvent r)) ∧
  (∀ s : State, s.inputs = [] → step s = .next s) ∧
  (∀ (s : State) (nbits w : Nat) (i : Instr),
    decodeTableWord nbits w = some i → step (s.withFetchWord nbits w) = exec i s)

/-- 30_encoding.md R115: a draw returns the byte the random source gives; with none queued, the free
value of this draw, whatever it is (log 6). -/
def Obligations.DrawTakesTheNextEntropyByte : Prop :=
  (∀ (s : State) (d : Byte) (rest : List Byte), s.entropyIn = d :: rest →
    s.draw = d ∧ s.afterDraw = { s with entropyIn := rest }) ∧
  (∀ s : State, s.entropyIn = [] →
    s.draw = Config.freeDraw s.drawCount ∧ s.afterDraw = { s with drawCount := s.drawCount + 1 })

/-! ### Commands: control and scrambler -/

/-- 44_control.md R250. -/
def Obligations.NopWritesCmdAndStatusOnly : Prop :=
  ∀ (arg : Byte) (len : Len) (s : State),
    exec (.nop arg len) s = .next { s with cmd := assembled 0x00 arg len, status := 0x00 }

/-- 44_control.md R251: every reserved word, in each of its seven rows. -/
def Obligations.ReservedWordsReportBadCommand : Prop :=
  ∀ s : State,
    (∀ r : BitVec 24, exec (.reserved07 r) s = .next { s with cmd := 0x07#8 ++ r, status := 0x01 }) ∧
    (∀ r : BitVec 25, exec (.reserved0A r) s = .next { s with cmd := 0x05#7 ++ r, status := 0x01 }) ∧
    (∀ r : BitVec 26, exec (.reserved0C r) s = .next { s with cmd := 0x03#6 ++ r, status := 0x01 }) ∧
    (∀ r : BitVec 28, exec (.reserved10 r) s = .next { s with cmd := 0x1#4 ++ r, status := 0x01 }) ∧
    (∀ r : BitVec 29, exec (.reserved20 r) s = .next { s with cmd := 0x1#3 ++ r, status := 0x01 }) ∧
    (∀ r : BitVec 30, exec (.reserved40 r) s = .next { s with cmd := 0x1#2 ++ r, status := 0x01 }) ∧
    (∀ r : BitVec 31, exec (.reserved80 r) s = .next { s with cmd := 0x1#1 ++ r, status := 0x01 })

/-- 40_scrambler.md R122. -/
def Obligations.ScrambleResult : Prop :=
  ∀ (arg : Byte) (len : Len) (s : State),
    (len.toNat ≤ 1024 → ∃ b' : Vector Byte 1024,
      exec (.scramble arg len) s = .next { s.afterDraw with
        cmd := assembled 0x01 arg len, b := b', outLen := len.setWidth 11,
        seed := s.draw.setWidth 7, status := 0x00 } ∧
      ∀ (i : Nat) (_ : i < 1024), b'[i] =
        if i < len.toNat then s.a[i] ^^^ keyAt s.params.key (s.draw &&& 0x7F) i else s.b[i]) ∧
    (1024 < len.toNat →
      exec (.scramble arg len) s =
        .next { s with cmd := assembled 0x01 arg len, status := 0x02 })

/-- 40_scrambler.md R123. -/
def Obligations.DescrambleResult : Prop :=
  ∀ (seed : Byte) (len : Len) (s : State),
    (len.toNat ≤ 1024 → ∃ b' : Vector Byte 1024,
      exec (.descramble seed len) s = .next { s with
        cmd := assembled 0x02 seed len, b := b', outLen := len.setWidth 11, status := 0x00 } ∧
      ∀ (i : Nat) (_ : i < 1024), b'[i] =
        if i < len.toNat then s.a[i] ^^^ keyAt s.params.key seed i else s.b[i]) ∧
    (1024 < len.toNat →
      exec (.descramble seed len) s =
        .next { s with cmd := assembled 0x02 seed len, status := 0x02 })

/-- 40_scrambler.md R124. -/
def Obligations.ScramblingTwiceRestores : Prop :=
  ∀ (key : Vector Byte 64) (x : List Byte) (seed : Byte), scr key (scr key x seed) seed = x

/-- 40_scrambler.md R126. -/
def Obligations.KeyStreamIsPeriodic : Prop :=
  ∀ (key : Vector Byte 64) (seed : Byte) (i : Nat) (x : List Byte),
    kidx seed i = kidx (BitVec.ofNat 8 (seed.toNat % 64)) i ∧
    keyByte key seed (i + 64) = keyByte key seed i ∧
    scr key x (seed + 64) = scr key x seed ∧
    scr key x seed = scr key x (BitVec.ofNat 8 (seed.toNat % 64))

/-- 40_scrambler.md R123 (corner cases): SCRAMBLE, COPY_B2A, and DESCRAMBLE with the seed SCRAMBLE
left in SEED give back the bytes that stood in A. -/
def Obligations.DescrambleUndoesScramble : Prop :=
  ∀ (arg arg' : Byte) (len : Len) (s t : State), len.toNat ≤ 1024 →
    exec (.scramble arg len) s = .next t →
    ∃ u, runInstrs [.copyB2a arg' len, .descramble (t.seed.setWidth 8) len] t = .next u ∧
      u.outLen = len.setWidth 11 ∧ u.status = 0x00 ∧
      ∀ (i : Nat) (_ : i < 1024), i < len.toNat → u.b[i] = s.a[i]

/-- 44_control.md R252. -/
def Obligations.CopyB2aResult : Prop :=
  ∀ (arg : Byte) (len : Len) (s : State),
    (len.toNat ≤ 1024 → ∃ a' : Vector Byte 1024,
      exec (.copyB2a arg len) s = .next { s with
        cmd := assembled 0x06 arg len, a := a', outLen := len.setWidth 11, status := 0x00 } ∧
      ∀ (i : Nat) (_ : i < 1024), a'[i] = if i < len.toNat then s.b[i] else s.a[i]) ∧
    (1024 < len.toNat →
      exec (.copyB2a arg len) s =
        .next { s with cmd := assembled 0x06 arg len, status := 0x02 })

/-! ### Frame codec -/

/-- 41_frame_codec.md R152. -/
def Obligations.EncodeResult : Prop :=
  ∀ (arg : Byte) (len : Len) (s : State) (f : List Byte),
    f = wireFrame [] (s.a.toList.take len.toNat) →
    (256 < len.toNat →
      exec (.encode arg len) s =
        .next { s with cmd := assembled 0x03 arg len, status := 0x05 }) ∧
    (len.toNat ≤ 256 → 516 < f.length →
      exec (.encode arg len) s =
        .next { s with cmd := assembled 0x03 arg len, status := 0x06 }) ∧
    (len.toNat ≤ 256 → f.length ≤ 516 → ∃ b' : Vector Byte 1024,
      exec (.encode arg len) s = .next { s with
        cmd := assembled 0x03 arg len, b := b', outLen := BitVec.ofNat 11 f.length,
        status := 0x00 } ∧
      ∀ (i : Nat) (_ : i < 1024), b'[i] = f.getD i s.b[i])

/-- 41_frame_codec.md R153. -/
def Obligations.EncodeHResult : Prop :=
  ∀ (hdr : Byte) (len : Len) (s : State) (f : List Byte),
    f = wireFrame [hdr] (s.a.toList.take len.toNat) →
    (256 < len.toNat →
      exec (.encodeH hdr len) s =
        .next { s with cmd := assembled 0x04 hdr len, status := 0x05 }) ∧
    (len.toNat ≤ 256 → 518 < f.length →
      exec (.encodeH hdr len) s =
        .next { s with cmd := assembled 0x04 hdr len, status := 0x06 }) ∧
    (len.toNat ≤ 256 → f.length ≤ 518 → ∃ b' : Vector Byte 1024,
      exec (.encodeH hdr len) s = .next { s with
        cmd := assembled 0x04 hdr len, b := b', outLen := BitVec.ofNat 11 f.length,
        status := 0x00 } ∧
      ∀ (i : Nat) (_ : i < 1024), b'[i] = f.getD i s.b[i])

/-- 41_frame_codec.md R144. -/
def Obligations.EncoderOverflowsExactlyPastCapacity : Prop :=
  (∀ h p : List Byte, h.length ≤ 1 → p.length ≤ 256 →
    (511 + h.length < p.length + escapes h p → enc h p = .error .encOverflow) ∧
    (p.length + escapes h p ≤ 511 + h.length → enc h p = .ok (wireFrame h p)) ∧
    (wireFrame h p).length ≤ 518 + 2 * h.length) ∧
  enc [] (List.replicate 256 0x7E) = .error .encOverflow ∧
  (wireFrame [] (List.replicate 256 0x7E)).length = 517 ∧
  enc [0x00] (List.replicate 256 0x7E) = .ok (wireFrame [0x00] (List.replicate 256 0x7E)) ∧
  (wireFrame [0x00] (List.replicate 256 0x7E)).length = 518

/-- 30_encoding.md R101: the shape of every wire frame the encoder can build. -/
def Obligations.WireFrameShape : Prop :=
  ∀ h p f : List Byte, enc h p = .ok f →
    f.length = 5 + h.length + p.length + escapes h p ∧
    ∃ region : List Byte, f = [0x7E, 0x7E, 0xFF] ++ region ++ [0x7E] ∧
      (0x7E : Byte) ∉ region ∧
      ∀ j : Nat, region[j]? = some 0x7D → region[j + 1]? = some 0x5E ∨ region[j + 1]? = some 0x5D

/-- 41_frame_codec.md R155. -/
def Obligations.DecodingAFrameRestoresItsBytes : Prop :=
  ∀ h p f : List Byte, h.length ≤ 1 → 0 < (h ++ p).length → p.length ≤ 256 →
    enc h p = .ok f → dec f = .ok (h ++ p)

/-- 41_frame_codec.md R156. -/
def Obligations.EmptyFrameDoesNotDecode : Prop :=
  enc [] [] = .ok [0x7E, 0x7E, 0xFF, 0x00, 0x7E] ∧
  dec [0x7E, 0x7E, 0xFF, 0x00, 0x7E] = .error .markerNotFound ∧
  (∀ h p f : List Byte, h.length ≤ 1 → 1 ≤ h.length + p.length → enc h p = .ok f →
    6 ≤ f.length ∧ ∃ d, dec f = .ok d) ∧
  (∀ s : State, s.rsmState = .waitTerminator → s.rsmLen = 3 →
    exec (.rxByte 0x7E) s = .next { s with
      rsmBuf := s.rsmBuf.set 0 0x7E, rsmLen := 1, rsmState := .waitFlag2 })

/-- 41_frame_codec.md R158: one flipped bit changes the sum by a power of two, and the frame with
the old checksum fails; data with the same sum does not. -/
def Obligations.ChecksumCatchesEverySingleBitFlip : Prop :=
  (∀ (d : List Byte) (i k : Nat) (x : Byte), d[i]? = some x → k < 8 →
    (byteSum (d.set i (x ^^^ (1#8 <<< k))) = byteSum d + 1#8 <<< k ∨
      byteSum (d.set i (x ^^^ (1#8 <<< k))) = byteSum d - 1#8 <<< k) ∧
    dec (frameWithSum (d.set i (x ^^^ (1#8 <<< k))) (byteSum d)) = .error .checksumMismatch) ∧
  (∀ d d' : List Byte, d' ≠ [] → byteSum d' = byteSum d →
    dec (frameWithSum d' (byteSum d)) = .ok d') ∧
  (∀ d d' : List Byte, d.Perm d' → byteSum d' = byteSum d)

/-- 41_frame_codec.md R154, with the codes of 60_exceptions.md R270. -/
def Obligations.DecodeResult : Prop :=
  ∀ (arg : Byte) (len : Len) (s : State),
    (1024 < len.toNat →
      exec (.decode arg len) s =
        .next { s with cmd := assembled 0x05 arg len, status := 0x02 }) ∧
    (∀ e, len.toNat ≤ 1024 → dec (s.a.toList.take len.toNat) = .error e →
      exec (.decode arg len) s =
        .next { s with cmd := assembled 0x05 arg len, status := e.code }) ∧
    (∀ d, len.toNat ≤ 1024 → dec (s.a.toList.take len.toNat) = .ok d → ∃ b' : Vector Byte 1024,
      exec (.decode arg len) s = .next { s with
        cmd := assembled 0x05 arg len, b := b', outLen := BitVec.ofNat 11 d.length,
        status := 0x00 } ∧
      ∀ (i : Nat) (_ : i < 1024), b'[i] = d.getD i s.b[i]) ∧
    CodecError.frameTooShort.code = 0x10 ∧ CodecError.markerNotFound.code = 0x11 ∧
    CodecError.terminatorNotFound.code = 0x12 ∧ CodecError.invalidEscape.code = 0x13 ∧
    CodecError.checksumMismatch.code = 0x14

/-- 41_frame_codec.md R145: the decoder is the spec's pseudocode, errors and their order included. -/
def Obligations.DecoderIsTheIndexedAlgorithm : Prop := ∀ f : List Byte, dec f = decodeByIndex f

/-- 41_frame_codec.md R147: what follows the terminator does not matter. -/
def Obligations.BytesAfterTheTerminatorAreIgnored : Prop :=
  ∀ region tail : List Byte, 2 ≤ region.length → (0x7E : Byte) ∉ region →
    dec ([0x7E, 0xFF] ++ region ++ [0x7E] ++ tail) = dec ([0x7E, 0xFF] ++ region ++ [0x7E])

/-! ### What holds of every command -/

/-- 44_control.md R253: every command ends within its step, and CMD holds its word. -/
def Obligations.EveryCommandCompletes : Prop :=
  ∀ (i : Instr) (w : Word) (s : State), i.issuedWord? = some w →
    ∃ t, exec i s = .next t ∧ t.cmd = w

/-- 44_control.md R254. -/
def Obligations.FailingCommandWritesOnlyStatusAndCmd : Prop :=
  ∀ (i : Instr) (w : Word) (s t : State), i.issuedWord? = some w → exec i s = .next t →
    t.status ≠ 0x00 → t = { s with cmd := w, status := t.status }

/-! ### Correlator -/

/-- 43_correlator.md R220, R221, R222: TXN_SEND, accepted and refused, the lock checked first. -/
def Obligations.TxnSendResult : Prop :=
  ∀ (arg : Byte) (len : Len) (s : State) (f : List Byte),
    f = wireFrame [s.draw &&& 0x7F]
      (scrambled s.params.key (s.a.toList.take len.toNat) (s.draw &&& 0x7F)) →
    (s.txcState ≠ .idle → exec (.txnSend arg len) s =
      .next { s with cmd := assembled 0x08 arg len, status := 0x03 }) ∧
    (s.txcState = .idle → len.toNat < 1 ∨ 256 < len.toNat → exec (.txnSend arg len) s =
      .next { s with cmd := assembled 0x08 arg len, status := 0x02 }) ∧
    (s.txcState = .idle → 1 ≤ len.toNat → len.toNat ≤ 256 → ∃ p' : Vector Byte 256,
      (∀ (i : Nat) (h : i < 256), p'[i] =
        if i < len.toNat then s.a[i]'(Nat.lt_trans h (by decide)) else s.pendBuf[i]) ∧
      (f.length ≤ 518 → exec (.txnSend arg len) s = .next { s.afterDraw with
        cmd := assembled 0x08 arg len, status := 0x00, pendBuf := p', pendLen := len.setWidth 9,
        replyReq := arg.getLsbD 0, replySeen := false, replyLen := 0, attempt := 0,
        result := 0x00, txcSeed := s.draw.setWidth 7, txOut := s.txOut ++ f,
        txcState := .waitLoopback }) ∧
      (518 < f.length → exec (.txnSend arg len) s = .next { s.afterDraw with
        cmd := assembled 0x08 arg len, status := 0x00, pendBuf := p', pendLen := len.setWidth 9,
        replyReq := arg.getLsbD 0, replySeen := false, replyLen := 0, attempt := 0,
        result := 0x06, txcSeed := s.draw.setWidth 7, txcState := .done }))

/-- 43_correlator.md R224. -/
def Obligations.TxnAckReleasesAFinishedTransaction : Prop :=
  ∀ (arg : Byte) (len : Len) (s : State),
    (s.txcState = .done → exec (.txnAck arg len) s =
      .next { s with cmd := assembled 0x09 arg len, status := 0x00, txcState := .idle }) ∧
    (s.txcState ≠ .done → exec (.txnAck arg len) s =
      .next { s with cmd := assembled 0x09 arg len, status := 0x04 })

/-- 43_correlator.md R226. -/
def Obligations.TimeoutRetransmitsOrEnds : Prop :=
  ∀ (s : State) (f : List Byte),
    f = wireFrame [s.draw &&& 0x7F]
      (scrambled s.params.key (s.pendBuf.toList.take s.pendLen.toNat) (s.draw &&& 0x7F)) →
    (s.txcState = .idle ∨ s.txcState = .done → exec .timeout s = .next s) ∧
    (s.txcState = .waitLoopback ∨ s.txcState = .waitReply →
      (s.attempt.toNat < s.params.maxRetries.toNat → f.length ≤ 518 →
        exec .timeout s = .next { s.afterDraw with
          attempt := s.attempt + 1, replySeen := false, replyLen := 0,
          txcSeed := s.draw.setWidth 7, txOut := s.txOut ++ f, txcState := .waitLoopback }) ∧
      (s.attempt.toNat < s.params.maxRetries.toNat → 518 < f.length →
        exec .timeout s = .next { s.afterDraw with
          attempt := s.attempt + 1, replySeen := false, replyLen := 0,
          txcSeed := s.draw.setWidth 7, txcState := .done, result := 0x06 }) ∧
      (s.params.maxRetries.toNat ≤ s.attempt.toNat →
        exec .timeout s = .next { s with txcState := .done, result := 0x31 }))

/-- 43_correlator.md R211, R213, R214, R215, R216: every case of Dispatch, for the packets of 1 to 251
bytes that R211 gives it. Here `args` is not bounded: what is captured of a longer packet (its first
256 bytes, its length mod 512) is the model's choice and no rule's (log 15). -/
def Obligations.DispatchMatchesLoopbackThenReply : Prop :=
  ∀ (op : Byte) (args : List Byte) (s : State),
    let loopback := s.txcState = .waitLoopback ∧ op = s.pendBuf[0]
    let same := (op :: args).length = s.pendLen.toNat ∧
      op :: args = s.pendBuf.toList.take s.pendLen.toNat
    let reply := (s.txcState = .waitLoopback ∨ s.txcState = .waitReply) ∧ s.replyReq = true ∧
      op = s.pendBuf[0] + 1
    (loopback → same → s.replyReq = false ∨ s.replySeen = true →
      exec (.dispatch op args) s = .next { s with txcState := .done, result := 0x30 }) ∧
    (loopback → same → s.replyReq = true → s.replySeen = false →
      exec (.dispatch op args) s = .next { s with txcState := .waitReply }) ∧
    (loopback → ¬ same →
      exec (.dispatch op args) s = .next { s with txcState := .done, result := 0x32 }) ∧
    (reply → ∃ r' : Vector Byte 256,
      (∀ (i : Nat) (_ : i < 256), r'[i] = (op :: args).getD i s.replyBuf[i]) ∧
      (s.txcState = .waitLoopback → exec (.dispatch op args) s = .next { s with
        replyBuf := r', replyLen := BitVec.ofNat 9 (args.length + 1), replySeen := true }) ∧
      (s.txcState = .waitReply → exec (.dispatch op args) s = .next { s with
        replyBuf := r', replyLen := BitVec.ofNat 9 (args.length + 1), replySeen := true,
        txcState := .done, result := 0x30 })) ∧
    (¬ loopback → ¬ reply → exec (.dispatch op args) s =
      .next { s with pktOut := s.pktOut ++ [⟨category op, op :: args⟩] })

/-- 43_correlator.md R217: which packets are unsolicited, and that an unknown one is not dropped. -/
def Obligations.UnsolicitedPacketsGoToThePktPort : Prop :=
  ∀ (op : Byte) (args : List Byte) (s : State),
    (s.txcState = .idle ∨ s.txcState = .done ∨
      (op ≠ s.pendBuf[0] ∧ op ≠ s.pendBuf[0] + 1) ∨
      (op = s.pendBuf[0] + 1 ∧ s.replyReq = false) ∨
      (s.txcState = .waitReply ∧ op = s.pendBuf[0])) →
    exec (.dispatch op args) s =
      .next { s with pktOut := s.pktOut ++ [⟨category op, op :: args⟩] } ∧
    (op ∉ listedOpcodes → category op = .unknown)

/-- 43_correlator.md R229: the source's example of an echo and then a reply. -/
def Obligations.LoopbackThenReplyExample : Prop :=
  ∀ s : State, s.txcState = .waitLoopback → s.replyReq = true → s.replySeen = false →
    s.pendLen = 5 → s.pendBuf.toList.take 5 = [0x6A, 0x03, 0x27, 0x01, 0x01] →
    exec (.dispatch 0x6A [0x03, 0x27, 0x01, 0x01]) s = .next { s with txcState := .waitReply } ∧
    ∃ t, runInstrs [.dispatch 0x6A [0x03, 0x27, 0x01, 0x01],
        .dispatch 0x6B [0x03, 0x27, 0x01, 0x01]] s = .next t ∧
      t.replyBuf.toList.take 5 = [0x6B, 0x03, 0x27, 0x01, 0x01] ∧ t.replyLen = 5 ∧
      t.txcState = .done ∧ t.result = 0x30 ∧ t.pktOut = s.pktOut

/-- 30_encoding.md R108, R109: the category of each of the 256 opcodes, by its code. -/
def Obligations.EveryOpcodeHasItsCategory : Prop :=
  ∀ op : Byte, (category op).code.toNat = categoryCode op

/-- 30_encoding.md R105, R108: a packet's row of the opcode table is the dispatch of that packet, in
every state (log 9); while no transaction waits, the packet of each listed opcode, and of any other,
goes out with the category of its row, and nothing else changes. -/
def Obligations.PacketOpcodeRows : Prop :=
  (∀ (i : Instr) (op : Byte) (args : List Byte) (s : State), i.packet? = some (op, args) →
    ∃ t, exec i s = .next t ∧ exec (.dispatch op args) s = .next t) ∧
  (∀ (args : List Byte) (s : State), s.txcState = .idle ∨ s.txcState = .done →
      let out (c : Category) (op : Byte) : Result :=
        .next { s with pktOut := s.pktOut ++ [⟨c, op :: args⟩] }
      exec (.pkt11 args) s = out .keypress 0x11 ∧ exec (.pkt12 args) s = out .mmkey 0x12 ∧
      exec (.pkt13 args) s = out .touch 0x13 ∧ exec (.pkt15 args) s = out .kbDisable 0x15 ∧
      exec (.pkt16 args) s = out .sync 0x16 ∧
      exec (.pkt6A args) s = out .control 0x6A ∧ exec (.pkt6B args) s = out .control 0x6B ∧
      exec (.pkt6C args) s = out .control 0x6C ∧ exec (.pkt6D args) s = out .control 0x6D ∧
      exec (.pkt70 args) s = out .fwUpdate 0x70 ∧ exec (.pkt71 args) s = out .fwUpdate 0x71 ∧
      exec (.pkt72 args) s = out .fwUpdate 0x72 ∧ exec (.pkt73 args) s = out .fwUpdate 0x73 ∧
      exec (.pkt74 args) s = out .fwUpdate 0x74 ∧ exec (.pkt75 args) s = out .fwUpdate 0x75 ∧
      exec (.pkt76 args) s = out .control 0x76 ∧ exec (.pkt77 args) s = out .control 0x77 ∧
      exec (.pkt7C args) s = out .control 0x7C ∧ exec (.pkt7D args) s = out .control 0x7D ∧
      exec (.pkt80 args) s = out .control 0x80 ∧ exec (.pkt81 args) s = out .control 0x81 ∧
      exec (.pkt82 args) s = out .control 0x82 ∧ exec (.pkt83 args) s = out .control 0x83 ∧
      exec (.pkt84 args) s = out .control 0x84 ∧ exec (.pkt85 args) s = out .control 0x85 ∧
      ∀ op, op ∉ listedOpcodes → exec (.pktOther op args) s = out .unknown op)

/-- 43_correlator.md R227: with no answer, a waiting transaction ends within its retry budget, by
TXN_TIMEOUT or by an encoder overflow, and every attempt carries the same request. -/
def Obligations.RetryBudgetEndsTheTransaction : Prop :=
  ∀ (s : State) (n : Nat),
    s.txcState = .waitLoopback ∨ s.txcState = .waitReply →
    s.params.maxRetries.toNat ≤ s.attempt.toNat + n →
    ∃ t, runInstrs (List.replicate (n + 1) .timeout) s = .next t ∧ t.txcState = .done ∧
      (t.result = 0x31 ∨ t.result = 0x06) ∧ t.pendBuf = s.pendBuf ∧ t.pendLen = s.pendLen

/-! ### Reassembler -/

/-- 42_reassembler.md R184, R185: a byte outside a frame's region. -/
def Obligations.RxByteOutsideAFrame : Prop :=
  (∀ (b : Byte) (s : State), s.rsmState = .waitFlag1 →
    (b = 0x7E → exec (.rxByte b) s = .next { s with
      rsmBuf := s.rsmBuf.set 0 0x7E, rsmLen := 1, rsmState := .waitFlag2 }) ∧
    (b ≠ 0x7E → exec (.rxByte b) s = .next s)) ∧
  (∀ (b : Byte) (s : State), s.rsmState = .waitFlag2 → s.rsmLen = 1 →
    (b = 0xFF → exec (.rxByte b) s = .next { s with
      rsmBuf := s.rsmBuf.set 1 0xFF, rsmLen := 2, rsmState := .waitTerminator }) ∧
    (b = 0x7E → exec (.rxByte b) s = .next s) ∧
    (b ≠ 0xFF → b ≠ 0x7E →
      exec (.rxByte b) s = .next { s with rsmState := .waitFlag1, rsmLen := 0 }))

/-- 42_reassembler.md R190, R186: a byte inside a frame's region, and a terminator that comes too
early. -/
def Obligations.RxByteInsideAFrame : Prop :=
  (∀ (b : Byte) (s : State) (h : s.rsmLen.toNat < 256), s.rsmState = .waitTerminator → b ≠ 0x7E →
    (s.rsmLen.toNat < 255 → exec (.rxByte b) s = .next { s with
      rsmBuf := s.rsmBuf.set s.rsmLen.toNat b, rsmLen := s.rsmLen + 1 }) ∧
    (s.rsmLen.toNat = 255 → exec (.rxByte b) s = .next { s with
      rsmBuf := s.rsmBuf.set s.rsmLen.toNat b, rxLast := 0x15, rxOvfCnt := s.rxOvfCnt + 1,
      rsmState := .waitFlag1, rsmLen := 0 })) ∧
  (∀ s : State, s.rsmState = .waitTerminator → s.rsmLen.toNat < 4 →
    exec (.rxByte 0x7E) s = .next { s with
      rsmBuf := s.rsmBuf.set 0 0x7E, rsmLen := 1, rsmState := .waitFlag2 })

/-- 42_reassembler.md R187, R188, R189: the terminator of a frame of at least four bytes. -/
def Obligations.RxByteEndsAFrame : Prop :=
  ∀ (s : State) (h : s.rsmLen.toNat < 256) (f : List Byte),
    s.rsmState = .waitTerminator → 4 ≤ s.rsmLen.toNat →
    f = s.rsmBuf.toList.take s.rsmLen.toNat ++ [0x7E] →
    (∀ seed d, dec f = .ok (seed :: d) → scrambled s.params.key d seed = [] →
      exec (.rxByte 0x7E) s = .next { s with
        rsmBuf := s.rsmBuf.set s.rsmLen.toNat 0x7E, rxOkCnt := s.rxOkCnt + 1, rxLast := 0x21,
        rsmState := .waitFlag1, rsmLen := 0 }) ∧
    (∀ seed d op args, dec f = .ok (seed :: d) → scrambled s.params.key d seed = op :: args →
      ∃ t, exec (.dispatch op args) s = .next t ∧
        exec (.rxByte 0x7E) s = .next { t with
          rsmBuf := s.rsmBuf.set s.rsmLen.toNat 0x7E, rxOkCnt := s.rxOkCnt + 1, rxLast := 0x20,
          rsmState := .waitFlag1, rsmLen := 0 }) ∧
    (dec f = .error .checksumMismatch →
      exec (.rxByte 0x7E) s = .next { s with
        rsmBuf := (s.rsmBuf.set s.rsmLen.toNat 0x7E).set 0 0x7E, rsmLen := 1,
        rsmState := .waitFlag2, rxLast := 0x14, rxCksumCnt := s.rxCksumCnt + 1 }) ∧
    (∀ e, e ≠ .checksumMismatch → dec f = .error e →
      exec (.rxByte 0x7E) s = .next { s with
        rsmBuf := (s.rsmBuf.set s.rsmLen.toNat 0x7E).set 0 0x7E, rsmLen := 1,
        rsmState := .waitFlag2, rxLast := e.code, rxStructCnt := s.rxStructCnt + 1 })

/-- 42_reassembler.md R193: what `dec` can answer on a reassembled frame. -/
def Obligations.ReassembledFrameOutcomes : Prop :=
  ∀ region : List Byte, 2 ≤ region.length → (0x7E : Byte) ∉ region →
    (∃ seed d, dec ([0x7E, 0xFF] ++ region ++ [0x7E]) = .ok (seed :: d)) ∨
    dec ([0x7E, 0xFF] ++ region ++ [0x7E]) = .error .invalidEscape ∨
    dec ([0x7E, 0xFF] ++ region ++ [0x7E]) = .error .checksumMismatch

/-- 42_reassembler.md R194: every 0x7E starts a frame, is padding before FLAG2, ends a frame that
decodes, or ends one that fails and then starts the next; nothing else can happen to it. -/
def Obligations.NoFlagIsLost : Prop :=
  ∀ s : State, RsmInv s → ∃ t, exec (.rxByte 0x7E) s = .next t ∧
    let f := s.rsmBuf.toList.take s.rsmLen.toNat ++ [0x7E]
    let starts := t.rsmState = .waitFlag2 ∧ t.rsmLen = 1 ∧ t.rsmBuf[0] = 0x7E
    let ending := s.rsmState = .waitTerminator ∧ 4 ≤ s.rsmLen.toNat
    (starts ∧ t.rxLast = s.rxLast ∧
      (s.rsmState = .waitFlag1 ∨ s.rsmState = .waitTerminator ∧ s.rsmLen.toNat < 4)) ∨
    (s.rsmState = .waitFlag2 ∧ t = s) ∨
    (ending ∧ (∃ d, dec f = .ok d) ∧ t.rsmState = .waitFlag1 ∧ t.rxOkCnt = s.rxOkCnt + 1) ∨
    (ending ∧ (∃ e, dec f = .error e ∧ t.rxLast = e.code) ∧ starts)

/-- 42_reassembler.md R196. -/
def Obligations.OverflowReturnsToWaitFlag1 : Prop :=
  ∀ (s : State) (bs more : List Byte), s.rsmState = .waitFlag1 → bs.length = 254 →
    (0x7E : Byte) ∉ bs → (0x7E : Byte) ∉ more →
    ∃ m : Vector Byte 256,
      feed ([0x7E, 0xFF] ++ bs ++ more) s = .next { s with
        rsmBuf := m, rsmLen := 0, rxLast := 0x15, rxOvfCnt := s.rxOvfCnt + 1 }

/-- 42_reassembler.md R195: two frames with garbage around them are two packets in order. -/
def Obligations.StreamOfTwoFramesDeliversTwoPackets : Prop :=
  ∀ (s : State) (g1 g2 pa pb wa wb : List Byte) (sa sb : Byte),
    s.rsmState = .waitFlag1 → (0x7E : Byte) ∉ g1 → (0x7E : Byte) ∉ g2 →
    enc [sa] (scrambled s.params.key pa sa) = .ok wa → wa.length ≤ 257 →
    enc [sb] (scrambled s.params.key pb sb) = .ok wb → wb.length ≤ 257 →
    ∃ (t u : State) (m : Vector Byte 256),
      deliver pa s = .next t ∧ deliver pb t = .next u ∧
      feed (g1 ++ wa ++ g2 ++ wb) s = .next { u with
        rsmState := .waitFlag1, rsmLen := 0, rsmBuf := m, rxOkCnt := s.rxOkCnt + 2,
        rxLast := deliveredCode pb }

/-! ### Host access -/

/-- 20_memory.md R70, R67, R68, R69: a 4-byte read, at every address. -/
def Obligations.WordReadsReturnTheRegisters : Prop :=
  ∀ (s : State) (addr : Addr), ∃ w : Word,
    exec (.memRead addr .word) s = .next { s with hostReads := s.hostReads ++ [w] } ∧
    w.toNat = registerValue s addr.toNat

/-- 20_memory.md R72, R67, R68, R69: a 1-byte read, at every address. -/
def Obligations.ByteReadsReturnTheWindows : Prop :=
  ∀ (s : State) (addr : Addr), ∃ w : Word,
    exec (.memRead addr .byte) s = .next { s with hostReads := s.hostReads ++ [w] } ∧
    (∀ (i : Nat) (_ : i < 1024), addr.toNat = 0x1000 + i → w.toNat = s.a[i].toNat) ∧
    (∀ (i : Nat) (_ : i < 1024), addr.toNat = 0x1400 + i → w.toNat = s.b[i].toNat) ∧
    (∀ (i : Nat) (_ : i < 256), addr.toNat = 0x1800 + i → w.toNat = s.rsmBuf[i].toNat) ∧
    (∀ (i : Nat) (_ : i < 256), addr.toNat = 0x1900 + i → w.toNat = s.pendBuf[i].toNat) ∧
    (∀ (i : Nat) (_ : i < 256), addr.toNat = 0x1A00 + i → w.toNat = s.replyBuf[i].toNat) ∧
    (∀ (i : Nat) (_ : i < 64), addr.toNat = 0x1B00 + i → w.toNat = s.params.key[i].toNat) ∧
    (addr.toNat < 0x1000 ∨ 0x1B40 ≤ addr.toNat → w = 0)

/-- 44_control.md R253, 30_encoding.md R90: a word write of CMD is the command of the word, for each
value of OP. -/
def Obligations.CmdWriteRunsTheCommand : Prop :=
  (∀ (w : Word) (s : State), exec (.memWrite 0x0000 .word w) s = exec (decodeCommand w) s) ∧
  ∀ (arg : Byte) (len : Len) (s : State),
    let write (op : Byte) : Result := exec (.memWrite 0x0000 .word (assembled op arg len)) s
    write 0x00 = exec (.nop arg len) s ∧ write 0x01 = exec (.scramble arg len) s ∧
    write 0x02 = exec (.descramble arg len) s ∧ write 0x03 = exec (.encode arg len) s ∧
    write 0x04 = exec (.encodeH arg len) s ∧ write 0x05 = exec (.decode arg len) s ∧
    write 0x06 = exec (.copyB2a arg len) s ∧ write 0x08 = exec (.txnSend arg len) s ∧
    write 0x09 = exec (.txnAck arg len) s ∧
    ∀ op : Byte, op = 0x07 ∨ 0x0A ≤ op.toNat →
      write op = .next { s with cmd := assembled op arg len, status := 0x01 }

/-- 20_memory.md R66, R67, R68, R69: every other host write: CTRL keeps bit 0, an A byte is stored,
and nothing else has an effect. -/
def Obligations.OtherHostWrites : Prop :=
  ∀ (addr : Addr) (v : Word) (s : State),
    (addr.toNat = 0x010 →
      exec (.memWrite addr .word v) s = .next { s with irqEn := v.getLsbD 0 }) ∧
    (addr.toNat ≠ 0x000 → addr.toNat ≠ 0x010 → exec (.memWrite addr .word v) s = .next s) ∧
    (∀ (i : Nat) (_ : i < 1024), addr.toNat = 0x1000 + i →
      exec (.memWrite addr .byte v) s = .next { s with a := s.a.set i (v.setWidth 8) }) ∧
    (addr.toNat < 0x1000 ∨ 0x1400 ≤ addr.toNat → exec (.memWrite addr .byte v) s = .next s)

/-! ### Reset -/

/-- 70_reset_and_hazards.md R310, R311, 10_state.md R54: the value RESET gives each register, and the
registers after power-on. The model's choices, no rule's: the buffers' bytes are the free values of
this reset, whatever they are, numbered by a counter (log 7); the streams are fields that RESET keeps
(log 8); the pending inputs and the queued entropy bytes stay (log 14); the parameters are a field,
after power-on an opaque constant of Config (log 5). -/
def Obligations.ResetWritesEveryRegister : Prop :=
  (∀ s : State, ∃ (a b : Vector Byte 1024) (m p r : Vector Byte 256),
    exec .reset s = .next {
      params := s.params, cmd := 0, status := 0x00, outLen := 0, seed := 0, irqEn := false,
      a := a, b := b, rsmState := .waitFlag1, rsmLen := 0, rsmBuf := m, rxLast := 0x00,
      rxOkCnt := 0, rxStructCnt := 0, rxCksumCnt := 0, rxOvfCnt := 0, txcState := .idle,
      pendBuf := p, pendLen := 0, replyReq := false, replySeen := false, replyBuf := r,
      replyLen := 0, attempt := 0, result := 0x00, txcSeed := 0, txOut := s.txOut,
      pktOut := s.pktOut, hostReads := s.hostReads, inputs := s.inputs,
      entropyIn := s.entropyIn, drawCount := s.drawCount, resetCount := s.resetCount + 1 } ∧
    (∀ (i : Nat) (_ : i < 1024), a[i] = Config.resetByte (s.resetCount + 1) (0x1000 + i) ∧
      b[i] = Config.resetByte (s.resetCount + 1) (0x1400 + i)) ∧
    (∀ (i : Nat) (_ : i < 256), m[i] = Config.resetByte (s.resetCount + 1) (0x1800 + i) ∧
      p[i] = Config.resetByte (s.resetCount + 1) (0x1900 + i) ∧
      r[i] = Config.resetByte (s.resetCount + 1) (0x1A00 + i))) ∧
  State.reset.cmd = 0 ∧ State.reset.status = 0x00 ∧ State.reset.outLen = 0 ∧
  State.reset.seed = 0 ∧ State.reset.irqEn = false ∧ State.reset.rsmState = .waitFlag1 ∧
  State.reset.rsmLen = 0 ∧ State.reset.rxLast = 0x00 ∧ State.reset.rxOkCnt = 0 ∧
  State.reset.rxStructCnt = 0 ∧ State.reset.rxCksumCnt = 0 ∧ State.reset.rxOvfCnt = 0 ∧
  State.reset.txcState = .idle ∧ State.reset.pendLen = 0 ∧ State.reset.replyLen = 0 ∧
  State.reset.replyReq = false ∧ State.reset.replySeen = false ∧ State.reset.attempt = 0 ∧
  State.reset.result = 0x00 ∧ State.reset.txcSeed = 0 ∧ State.reset.params = Config.params

/-! ### What holds of every step -/

/-- 10_state.md R52: the reset state meets the reassembler's invariant, and every step keeps it. -/
def Obligations.ReassemblerInvariantIsKept : Prop :=
  RsmInv State.reset ∧ ∀ s t : State, RsmInv s → step s = .next t → RsmInv t

/-- 10_state.md R53: every step keeps the correlator's invariant. -/
def Obligations.CorrelatorInvariantIsKept : Prop :=
  ∀ s t : State, TxcInv s → step s = .next t → TxcInv t

/-- 10_state.md R53, last clause: RESULT is 0x00 exactly when no transaction has reached DONE since
the last TXN_SEND or reset. -/
def Obligations.ResultIsNoneUntilAnOutcome : Prop :=
  ∀ (i : Instr) (s t : State) (seen : Bool), TxcInv s → (s.txcState = .done → seen = true) →
    (s.result = 0x00 ↔ seen = false) → exec i s = .next t →
    (t.result = 0x00 ↔ outcomeSince i s t seen = false)

/-- 60_exceptions.md R270: every step keeps STATUS, RX_LAST and RESULT within their own codes. -/
def Obligations.CodeRegistersHoldTheirOwnCodes : Prop :=
  ∀ s t : State, RsmInv s → CodesInv s → step s = .next t → CodesInv t

/-- 10_state.md R24, R39, 30_encoding.md R117: every step keeps the lengths in range and emits only
packets of 1 to 251 bytes with the category of their opcode (the dispatcher's port takes no longer
packet: log 15). -/
def Obligations.LengthsAndPacketsStayInRange : Prop :=
  ∀ s t : State, LengthsInv s → step s = .next t → LengthsInv t

/-- The invariants hold after power-on and after a RESET. -/
def Obligations.ResetMeetsTheInvariants : Prop :=
  Inv State.reset ∧ ∀ s t : State, LengthsInv s → exec .reset s = .next t → Inv t

/-- 60_exceptions.md R275: no operation stops the FCC: where the reassembler's invariant holds, a step
ends normally unless the next input is no event at all. That such bytes are refused (log 4) and that
a step with no event pending leaves the state as it is (log 3) are the model's choices. -/
def Obligations.NoStepStopsTheMachine : Prop :=
  ∀ s : State, RsmInv s →
    (∃ t, step s = .next t) ∨
    ∃ (e : Event) (rest : List Event) (r : DecodeError), s.inputs = e :: rest ∧ decode e = .error r

/-- 20_memory.md R79: who writes the reassembler's and the correlator's state. -/
def Obligations.StateIsWrittenByItsOwnersOnly : Prop :=
  ∀ (i : Instr) (s t : State), exec i s = .next t → i ≠ .reset →
    ((∀ b, i ≠ .rxByte b) →
      t.rsmState = s.rsmState ∧ t.rsmLen = s.rsmLen ∧ t.rsmBuf = s.rsmBuf ∧
      t.rxLast = s.rxLast ∧ t.rxOkCnt = s.rxOkCnt ∧ t.rxStructCnt = s.rxStructCnt ∧
      t.rxCksumCnt = s.rxCksumCnt ∧ t.rxOvfCnt = s.rxOvfCnt) ∧
    (i.runsOp 0x08 = false → i ≠ .timeout →
      t.pendBuf = s.pendBuf ∧ t.pendLen = s.pendLen ∧ t.replyReq = s.replyReq ∧
      t.attempt = s.attempt ∧ t.txcSeed = s.txcSeed) ∧
    (i.runsOp 0x08 = false → i ≠ .timeout → i.receives = false →
      t.result = s.result ∧ t.replySeen = s.replySeen ∧ t.replyBuf = s.replyBuf ∧
      t.replyLen = s.replyLen ∧ (i.runsOp 0x09 = false → t.txcState = s.txcState))

/-- 70_reset_and_hazards.md R321, 10_state.md R23: the receive side and the timer do not touch what
the host's commands work on, no command disturbs the reassembly, and a transaction does not write
SEED. -/
def Obligations.ReceiveSideLeavesCommandStateAlone : Prop :=
  ∀ (i : Instr) (s t : State), exec i s = .next t →
    (i.receives = true ∨ i = .timeout →
      t.cmd = s.cmd ∧ t.status = s.status ∧ t.outLen = s.outLen ∧ t.seed = s.seed ∧
      t.irqEn = s.irqEn ∧ t.a = s.a ∧ t.b = s.b) ∧
    (i.issuedWord?.isSome = true →
      t.rsmState = s.rsmState ∧ t.rsmLen = s.rsmLen ∧ t.rsmBuf = s.rsmBuf) ∧
    (i.runsOp 0x08 = true →
      t.seed = s.seed ∧ t.outLen = s.outLen ∧ t.a = s.a ∧ t.b = s.b)

/-- 10_state.md R48, R21: the streams, which State records (log 8), only grow at their ends, and the
parameters never change. -/
def Obligations.OutputStreamsOnlyGrow : Prop :=
  ∀ (i : Instr) (s t : State), exec i s = .next t →
    s.txOut <+: t.txOut ∧ s.pktOut <+: t.pktOut ∧ s.hostReads <+: t.hostReads ∧
    t.params = s.params

/-- 70_reset_and_hazards.md R322: whatever puts bytes on TX leaves the correlator waiting for the
loopback in the same step, and what it sends is one frame of the pending request. -/
def Obligations.TransmittingIsWaiting : Prop :=
  ∀ (i : Instr) (s t : State), exec i s = .next t → t.txOut ≠ s.txOut →
    t.txcState = .waitLoopback ∧ (i.runsOp 0x08 = true ∨ i = .timeout) ∧
    ∃ f, enc [t.txcSeed.setWidth 8]
        (scrambled s.params.key (t.pendBuf.toList.take t.pendLen.toNat) (t.txcSeed.setWidth 8))
          = .ok f ∧ t.txOut = s.txOut ++ f

/-- 60_exceptions.md R281: the level of the IRQ line, what alone can raise it, what alone can lower
it, and that those operations do lower it. -/
def Obligations.IrqRisesOnlyOnAnOutcome : Prop :=
  ∀ (i : Instr) (s t : State), exec i s = .next t →
    (s.irq = false → t.irq = true →
      (s.irqEn = true ∧ s.txcState ≠ .done ∧ t.txcState = .done ∧
        (i.receives = true ∨ i = .timeout ∨ i.runsOp 0x08 = true)) ∨
      (s.irqEn = false ∧ s.txcState = .done ∧ ∃ v, i = .memWrite 0x0010 .word v)) ∧
    (s.irq = true → t.irq = false →
      i.runsOp 0x09 = true ∨ i = .reset ∨ ∃ v, i = .memWrite 0x0010 .word v) ∧
    (t.irq = true ↔ t.irqEn = true ∧ t.txcState = .done) ∧
    (i.runsOp 0x09 = true ∨ i = .reset ∨ (∃ v, v.getLsbD 0 = false ∧ i = .memWrite 0x0010 .word v) →
      t.irq = false)
end

