-- ==== Sys2Proof/Laws/Buffers.lean ====
section
/-! SUPPORT. The buffer laws: what writing from index 0 leaves in each element, and what a slice of a
buffer is after a write. -/

namespace Sys2Proof.Machine

variable {n : Nat}

theorem writeFront_toList (v : Vector Byte n) (xs : List Byte) :
    (writeFront v xs).toList = xs.take n ++ v.toList.drop xs.length := rfl

/-- Each element is the written byte where there is one, and the old byte elsewhere. -/
theorem writeFront_getElem (v : Vector Byte n) (xs : List Byte) (i : Nat) (h : i < n) :
    (writeFront v xs)[i] = if hi : i < xs.length then xs[i] else v[i] := by
  rw [← Vector.getElem_toList (h := by simpa using h)]
  simp only [writeFront_toList, List.getElem_append, List.length_take]
  split
  · simp only [List.getElem_take]
    rw [dif_pos (by omega)]
  · have : xs.length ≤ i := by omega
    rw [dif_neg (by omega)]
    simp only [List.getElem_drop, Vector.getElem_toList]
    congr 1
    omega

theorem writeFront_getElem_getD (v : Vector Byte n) (xs : List Byte) (i : Nat) (h : i < n) :
    (writeFront v xs)[i] = xs.getD i v[i] := by
  rw [writeFront_getElem]
  split <;> rename_i hi
  · simp [List.getD, hi]
  · simp [List.getD, List.getElem?_eq_none (Nat.le_of_not_lt hi)]

@[simp] theorem length_slice (v : Vector Byte n) (k : Nat) : (slice v k).length = min k n := by
  simp [slice]

theorem slice_getElem (v : Vector Byte n) (k i : Nat) (h : i < (slice v k).length) :
    (slice v k)[i] = v[i]'(by simp at h; omega) := by
  simp [slice]

/-- A write from index 0 is read back by the slice of its length. -/
theorem slice_writeFront (v : Vector Byte n) (xs : List Byte) (h : xs.length ≤ n) :
    slice (writeFront v xs) xs.length = xs := by
  simp [slice, writeFront_toList, List.take_of_length_le h]

/-- Writing at the slice's end appends to the slice. -/
theorem slice_set_end (v : Vector Byte n) (k : Nat) (x : Byte) (h : k < n) :
    slice (v.set k x) (k + 1) = slice v k ++ [x] := by
  apply List.ext_getElem
  · simp; omega
  · intro i h1 h2
    simp only [slice_getElem, Vector.getElem_set, List.getElem_append, length_slice]
    split
    · subst_vars; simp
    · rw [dif_pos (by simp at h1; omega)]

/-- A slice does not see a write past its end. -/
theorem slice_set_past (v : Vector Byte n) (k j : Nat) (x : Byte) (h : j < n) (hk : k ≤ j) :
    slice (v.set j x) k = slice v k := by
  apply List.ext_getElem
  · simp
  · intro i h1 h2
    simp only [slice_getElem, Vector.getElem_set]
    rw [if_neg (by simp at h1; omega)]

end Sys2Proof.Machine
end

