-- ==== Sys2Proof/Laws/Codec.lean ====
section
/-! SUPPORT. The codec functions on the structure of their input: one lemma for each way a sequence
can begin, lengths, and what the escape map never emits. -/

namespace Sys2Proof.Machine

/-! ### Scrambler -/

theorem length_scrFrom (key : Vector Byte Config.KEY_LEN) (seed : Byte) (i : Nat) (xs : List Byte) :
    (scrFrom key seed i xs).length = xs.length := by
  induction xs generalizing i with
  | nil => rfl
  | cons x xs ih => simp [scrFrom, ih]

@[simp] theorem length_scr (key : Vector Byte Config.KEY_LEN) (xs : List Byte) (seed : Byte) :
    (scr key xs seed).length = xs.length := length_scrFrom key seed 0 xs

theorem scrFrom_getElem (key : Vector Byte Config.KEY_LEN) (seed : Byte) (i j : Nat)
    (xs : List Byte) (h : j < (scrFrom key seed i xs).length) :
    (scrFrom key seed i xs)[j] =
      xs[j]'(by rwa [length_scrFrom] at h) ^^^ keyByte key seed (i + j) := by
  induction xs generalizing i j with
  | nil => simp [scrFrom] at h
  | cons x xs ih =>
    cases j with
    | zero => simp [scrFrom]
    | succ j =>
      simp only [scrFrom, List.getElem_cons_succ]
      rw [ih, Nat.add_right_comm, Nat.add_assoc]

/-- 40_scrambler.md R121, element by element. -/
theorem scr_getElem (key : Vector Byte Config.KEY_LEN) (seed : Byte) (j : Nat) (xs : List Byte)
    (h : j < (scr key xs seed).length) :
    (scr key xs seed)[j] = xs[j]'(by rwa [length_scr] at h) ^^^ keyByte key seed j := by
  have e := scrFrom_getElem key seed 0 j xs h
  rw [Nat.zero_add] at e
  exact e

/-! ### Encoder -/

@[simp] theorem escAll_nil : escAll [] = [] := rfl

@[simp] theorem escAll_cons (x : Byte) (xs : List Byte) : escAll (x :: xs) = esc x ++ escAll xs :=
  rfl

theorem escAll_append (xs ys : List Byte) : escAll (xs ++ ys) = escAll xs ++ escAll ys := by
  induction xs with
  | nil => rfl
  | cons x xs ih => simp [ih]

/-- What E(x) can be: a pair for FLAG1, a pair for ESC, else the byte. -/
theorem esc_cases (x : Byte) :
    (x = FLAG1 ∧ esc x = [ESC, FLAG1_ESC]) ∨ (x = ESC ∧ esc x = [ESC, ESC_ESC]) ∨
    (x ≠ FLAG1 ∧ x ≠ ESC ∧ esc x = [x]) := by
  unfold esc
  split
  · exact .inl ⟨‹_›, rfl⟩
  · split
    · exact .inr (.inl ⟨‹_›, rfl⟩)
    · exact .inr (.inr ⟨‹_›, ‹_›, rfl⟩)

/-- 30_encoding.md R101: E never emits 0x7E. -/
theorem flag1_not_mem_esc (x : Byte) : FLAG1 ∉ esc x := by
  obtain ⟨-, h⟩ | ⟨-, h⟩ | ⟨h1, -, h⟩ := esc_cases x <;> rw [h]
  · decide
  · decide
  · simpa using fun h => h1 h.symm

theorem flag1_not_mem_escAll (xs : List Byte) : FLAG1 ∉ escAll xs := by
  induction xs with
  | nil => simp
  | cons x xs ih => simp [flag1_not_mem_esc, ih]

theorem length_esc (x : Byte) : (esc x).length = if x = FLAG1 ∨ x = ESC then 2 else 1 := by
  obtain ⟨h, e⟩ | ⟨h, e⟩ | ⟨h1, h2, e⟩ := esc_cases x
  · rw [e, if_pos (.inl h)]; rfl
  · rw [e, if_pos (.inr h)]; rfl
  · simp [e, h1, h2]

theorem length_escAll_ge (xs : List Byte) : xs.length ≤ (escAll xs).length := by
  induction xs with
  | nil => simp
  | cons x xs ih => simp [length_esc]; split <;> omega

/-! ### Checksum -/

@[simp] theorem sumFrom_nil (c : Byte) : sumFrom c [] = c := rfl

@[simp] theorem sumFrom_cons (c x : Byte) (xs : List Byte) :
    sumFrom c (x :: xs) = sumFrom (c + x) xs := rfl

theorem sumFrom_eq_add (c : Byte) (xs : List Byte) : sumFrom c xs = c + sum8 xs := by
  unfold sum8
  induction xs generalizing c with
  | nil => simp
  | cons x xs ih =>
    rw [sumFrom_cons, sumFrom_cons, ih, ih (0 + x)]
    simp [BitVec.add_assoc]

@[simp] theorem sum8_nil : sum8 [] = 0 := rfl

@[simp] theorem sum8_cons (x : Byte) (xs : List Byte) : sum8 (x :: xs) = x + sum8 xs := by
  rw [sum8, sumFrom_cons, sumFrom_eq_add]; simp

/-! ### Decoder -/

/-- 41_frame_codec.md R147: up to the first FLAG1, when there is one. -/
theorem beforeFlag1_append (xs ys : List Byte) (h : FLAG1 ∉ xs) :
    beforeFlag1 (xs ++ FLAG1 :: ys) = some xs := by
  induction xs with
  | nil => simp [beforeFlag1]
  | cons x xs ih =>
    simp only [List.mem_cons, not_or] at h
    simp [beforeFlag1, Ne.symm h.1, ih h.2]

/-- The region found ends at a FLAG1 and holds none. -/
theorem beforeFlag1_some {f r : List Byte} (h : beforeFlag1 f = some r) :
    FLAG1 ∉ r ∧ ∃ tail, f = r ++ FLAG1 :: tail := by
  induction f generalizing r with
  | nil => simp [beforeFlag1] at h
  | cons x xs ih =>
    unfold beforeFlag1 at h
    split at h
    · cases h; simp_all
    · obtain ⟨r', hr, rfl⟩ := Option.map_eq_some_iff.mp h
      obtain ⟨h1, tail, rfl⟩ := ih hr
      exact ⟨by simp [h1, Ne.symm ‹_›], tail, rfl⟩

/-- The marker found lies before what follows it. -/
theorem afterMarker_some {n : Nat} {f r : List Byte} (h : afterMarker n f = some r) :
    ∃ front, f = front ++ FLAG1 :: FLAG2 :: r := by
  induction n generalizing f with
  | zero => unfold afterMarker at h; simp at h
  | succ n ih =>
    match f, h with
    | [], h => simp [afterMarker] at h
    | [_], h => simp [afterMarker] at h
    | x :: y :: rest, h =>
      unfold afterMarker at h
      split at h
      · rename_i hxy; cases h; exact ⟨[], by simp [hxy]⟩
      · obtain ⟨front, hf⟩ := ih h
        exact ⟨x :: front, by simp [hf]⟩

/-- Unescaping one byte's wire form gives that byte (41_frame_codec.md R148). -/
theorem unescape_esc_append (x : Byte) (rest : List Byte) :
    unescape (esc x ++ rest) = (unescape rest).map (x :: ·) := by
  obtain ⟨h, e⟩ | ⟨h, e⟩ | ⟨h1, h2, e⟩ := esc_cases x
  · subst h; rw [e]; simp [unescape]
  · subst h; rw [e]; simp [unescape, show ESC_ESC ≠ FLAG1_ESC by decide]
  · cases rest with
    | nil => simp [e, unescape, h2, Except.map]
    | cons y ys => simp [e, unescape, h2]

/-- No more bytes come out of a region than went in. -/
theorem length_unescape {r u : List Byte} (h : unescape r = .ok u) : u.length ≤ r.length := by
  induction r using unescape.induct generalizing u with
  | case1 => simp [unescape] at h; simp [← h]
  | case2 => simp [unescape] at h
  | case3 x hx => simp [unescape, hx] at h; simp [← h]
  | case4 rest ih =>
    simp only [unescape, if_true] at h
    cases hr : unescape rest with
    | error e => simp [hr, Except.map] at h
    | ok v => simp [hr, Except.map] at h; have := ih hr; simp [← h]; omega
  | case5 rest h1 ih =>
    simp only [unescape, if_true, if_neg h1] at h
    cases hr : unescape rest with
    | error e => simp [hr, Except.map] at h
    | ok v => simp [hr, Except.map] at h; have := ih hr; simp [← h]; omega
  | case6 y rest h1 h2 => simp [unescape, h1, h2] at h
  | case7 x y rest hx ih =>
    simp only [unescape, if_neg hx] at h
    cases hr : unescape (y :: rest) with
    | error e => simp [hr, Except.map] at h
    | ok v => simp [hr, Except.map] at h; have := ih hr; simp at this; simp [← h]; omega

/-- What a region decodes to: at least its last byte, the checksum, is dropped. -/
theorem length_decRegion {r d : List Byte} (h : decRegion r = .ok d) : d.length ≤ r.length - 1 := by
  unfold decRegion at h
  split at h
  · cases h
  · rename_i u hu
    unfold validate at h
    split at h
    · cases h
      have := length_unescape hu
      simp only [List.length_dropLast]
      omega
    · cases h

/-- The frames `dec` accepts: marker, a region with no FLAG1 that is not empty, FLAG1. -/
theorem dec_ok {f d : List Byte} (h : dec f = .ok d) :
    ∃ front region tail, f = front ++ FLAG1 :: FLAG2 :: (region ++ FLAG1 :: tail) ∧
      region ≠ [] ∧ FLAG1 ∉ region ∧ decRegion region = .ok d := by
  unfold dec at h
  split at h
  · cases h
  · split at h
    · cases h
    · rename_i rest hm
      obtain ⟨front, hf⟩ := afterMarker_some hm
      split at h
      · cases h
      · cases h
      · rename_i x xs hb
        obtain ⟨h1, tail, ht⟩ := beforeFlag1_some hb
        exact ⟨front, x :: xs, tail, by rw [hf, ht], by simp, h1, h⟩

/-- Marker, terminator and checksum are no data: at least four bytes of a frame. -/
theorem length_dec {f d : List Byte} (h : dec f = .ok d) : d.length + 4 ≤ f.length := by
  obtain ⟨front, region, tail, rfl, hr, -, hd⟩ := dec_ok h
  have := length_decRegion hd
  have := List.length_pos_of_ne_nil hr
  simp only [List.length_append, List.length_cons]
  omega

/-- `enc` answers the frame, or one of its two errors. -/
theorem enc_cases (h p : List Byte) :
    (enc h p = .error .encTooLong ∧ 256 < p.length) ∨
    (enc h p = .error .encOverflow ∧ p.length ≤ 256 ∧ encCap h.length < (frame h p).length) ∨
    (enc h p = .ok (frame h p) ∧ p.length ≤ 256 ∧ (frame h p).length ≤ encCap h.length) := by
  unfold enc
  simp only [Config.MAX_PAYLOAD]
  split
  · exact .inl ⟨rfl, ‹_›⟩
  · split
    · exact .inr (.inl ⟨rfl, by omega, ‹_›⟩)
    · exact .inr (.inr ⟨rfl, by omega, by omega⟩)

end Sys2Proof.Machine
end

