-- ==== Sys2Proof/Laws/Decode.lean ====
section
/-! SUPPORT. The bit fields of command words, and words and addresses as bytes: taking apart what was
put together, and the other way round. -/

namespace Sys2Proof

/-! ### Command words (30_encoding.md R91) -/

@[simp] theorem cmdOp_cmdWord (op arg : Byte) (len : Len) : cmdOp (cmdWord op arg len) = op := by
  apply BitVec.eq_of_getLsbD_eq
  intro i h
  simp only [cmdOp, cmdWord, BitVec.getLsbD_extractLsb', BitVec.getLsbD_append]
  rw [if_neg (by omega), if_neg (by omega), show 24 + i - 16 - 8 = i by omega]
  simp [h]

@[simp] theorem cmdArg_cmdWord (op arg : Byte) (len : Len) : cmdArg (cmdWord op arg len) = arg := by
  apply BitVec.eq_of_getLsbD_eq
  intro i h
  simp only [cmdArg, cmdWord, BitVec.getLsbD_extractLsb', BitVec.getLsbD_append]
  simp [h]

@[simp] theorem cmdLen_cmdWord (op arg : Byte) (len : Len) : cmdLen (cmdWord op arg len) = len := by
  apply BitVec.eq_of_getLsbD_eq
  intro i h
  simp only [cmdLen, cmdWord, BitVec.getLsbD_extractLsb', BitVec.getLsbD_append]
  simp [h]

/-- A command word is its three fields. -/
theorem cmdWord_fields (w : Word) : cmdWord (cmdOp w) (cmdArg w) (cmdLen w) = w := by
  apply BitVec.eq_of_getLsbD_eq
  intro i h
  simp only [cmdOp, cmdArg, cmdLen, cmdWord, BitVec.getLsbD_extractLsb', BitVec.getLsbD_append]
  split
  · simp [*]
  · split
    · simp [show i - 16 < 8 by omega, show 16 + (i - 16) = i by omega]
    · simp [show i - 16 - 8 < 8 by omega, show 24 + (i - 16 - 8) = i by omega]

/-! ### Bytes (log 2) -/

/-- A word is the word of its bytes. -/
theorem wordOfBytes_wordBytes (w : Word) :
    wordOfBytes (w.extractLsb' 0 8) (w.extractLsb' 8 8) (w.extractLsb' 16 8) (w.extractLsb' 24 8)
      = w := by
  apply BitVec.eq_of_getLsbD_eq
  intro i h
  simp only [wordOfBytes, BitVec.getLsbD_extractLsb', BitVec.getLsbD_append]
  repeat' split
  · simp [*]
  · simp [show i - 8 < 8 by omega, show 8 + (i - 8) = i by omega]
  · simp [show i - 8 - 8 < 8 by omega, show 16 + (i - 8 - 8) = i by omega]
  · simp [show i - 8 - 8 - 8 < 8 by omega, show 24 + (i - 8 - 8 - 8) = i by omega]

/-- The bytes of a word of bytes are those bytes. -/
theorem wordBytes_wordOfBytes (b0 b1 b2 b3 : Byte) :
    wordBytes (wordOfBytes b0 b1 b2 b3) = [b0, b1, b2, b3] := by
  simp only [wordBytes, wordOfBytes, List.cons.injEq, and_true]
  refine ⟨?_, ?_, ?_, ?_⟩ <;> apply BitVec.eq_of_getLsbD_eq <;> intro i h <;>
    simp only [BitVec.getLsbD_extractLsb', BitVec.getLsbD_append]
  · simp [h]
  · simp [h]
  · rw [if_neg (by omega), if_neg (by omega), show 16 + i - 8 - 8 = i by omega]
    simp [h]
  · rw [if_neg (by omega), if_neg (by omega), if_neg (by omega),
      show 24 + i - 8 - 8 - 8 = i by omega]
    simp [h]

/-- A host address is the address of its bytes. -/
theorem addrOfBytes_addrBytes (a : Addr) :
    addrOfBytes (a.extractLsb' 0 8) (a.extractLsb' 8 8) = a := by
  apply BitVec.eq_of_getLsbD_eq
  intro i h
  simp only [addrOfBytes, BitVec.getLsbD_extractLsb', BitVec.getLsbD_append]
  split
  · simp [*]
  · simp [show i - 8 < 8 by omega, show 8 + (i - 8) = i by omega]

/-- The bytes of an address of bytes are those bytes. -/
theorem addrBytes_addrOfBytes (lo hi : Byte) : addrBytes (addrOfBytes lo hi) = [lo, hi] := by
  simp only [addrBytes, addrOfBytes, List.cons.injEq, and_true]
  refine ⟨?_, ?_⟩ <;> apply BitVec.eq_of_getLsbD_eq <;> intro i h <;>
    simp only [BitVec.getLsbD_extractLsb', BitVec.getLsbD_append] <;> simp [h]

end Sys2Proof
end

