-- ==== Sys2Proof/Laws/State.lean ====
section
/-! SUPPORT. One lemma per field of State and named update: what the field is after the update. They
are simp lemmas, so no proof has to unfold a record update. The last two updates have cases: the
draw of an entropy byte touches only the entropy fields, the log of a bad frame only the RX log. -/

namespace Sys2Proof.Machine

variable (s : State)

@[simp] theorem issue_params (w : Word) : (s.issue w).params = s.params := rfl
@[simp] theorem issue_cmd (w : Word) : (s.issue w).cmd = w := rfl
@[simp] theorem issue_status (w : Word) : (s.issue w).status = s.status := rfl
@[simp] theorem issue_outLen (w : Word) : (s.issue w).outLen = s.outLen := rfl
@[simp] theorem issue_seed (w : Word) : (s.issue w).seed = s.seed := rfl
@[simp] theorem issue_irqEn (w : Word) : (s.issue w).irqEn = s.irqEn := rfl
@[simp] theorem issue_a (w : Word) : (s.issue w).a = s.a := rfl
@[simp] theorem issue_b (w : Word) : (s.issue w).b = s.b := rfl
@[simp] theorem issue_rsmState (w : Word) : (s.issue w).rsmState = s.rsmState := rfl
@[simp] theorem issue_rsmLen (w : Word) : (s.issue w).rsmLen = s.rsmLen := rfl
@[simp] theorem issue_rsmBuf (w : Word) : (s.issue w).rsmBuf = s.rsmBuf := rfl
@[simp] theorem issue_rxLast (w : Word) : (s.issue w).rxLast = s.rxLast := rfl
@[simp] theorem issue_rxOkCnt (w : Word) : (s.issue w).rxOkCnt = s.rxOkCnt := rfl
@[simp] theorem issue_rxStructCnt (w : Word) : (s.issue w).rxStructCnt = s.rxStructCnt := rfl
@[simp] theorem issue_rxCksumCnt (w : Word) : (s.issue w).rxCksumCnt = s.rxCksumCnt := rfl
@[simp] theorem issue_rxOvfCnt (w : Word) : (s.issue w).rxOvfCnt = s.rxOvfCnt := rfl
@[simp] theorem issue_txcState (w : Word) : (s.issue w).txcState = s.txcState := rfl
@[simp] theorem issue_pendBuf (w : Word) : (s.issue w).pendBuf = s.pendBuf := rfl
@[simp] theorem issue_pendLen (w : Word) : (s.issue w).pendLen = s.pendLen := rfl
@[simp] theorem issue_replyReq (w : Word) : (s.issue w).replyReq = s.replyReq := rfl
@[simp] theorem issue_replySeen (w : Word) : (s.issue w).replySeen = s.replySeen := rfl
@[simp] theorem issue_replyBuf (w : Word) : (s.issue w).replyBuf = s.replyBuf := rfl
@[simp] theorem issue_replyLen (w : Word) : (s.issue w).replyLen = s.replyLen := rfl
@[simp] theorem issue_attempt (w : Word) : (s.issue w).attempt = s.attempt := rfl
@[simp] theorem issue_result (w : Word) : (s.issue w).result = s.result := rfl
@[simp] theorem issue_txcSeed (w : Word) : (s.issue w).txcSeed = s.txcSeed := rfl
@[simp] theorem issue_txOut (w : Word) : (s.issue w).txOut = s.txOut := rfl
@[simp] theorem issue_pktOut (w : Word) : (s.issue w).pktOut = s.pktOut := rfl
@[simp] theorem issue_hostReads (w : Word) : (s.issue w).hostReads = s.hostReads := rfl
@[simp] theorem issue_inputs (w : Word) : (s.issue w).inputs = s.inputs := rfl
@[simp] theorem issue_entropyIn (w : Word) : (s.issue w).entropyIn = s.entropyIn := rfl
@[simp] theorem issue_drawCount (w : Word) : (s.issue w).drawCount = s.drawCount := rfl
@[simp] theorem issue_resetCount (w : Word) : (s.issue w).resetCount = s.resetCount := rfl

@[simp] theorem setStatus_params (c : BitVec 8) : (s.setStatus c).params = s.params := rfl
@[simp] theorem setStatus_cmd (c : BitVec 8) : (s.setStatus c).cmd = s.cmd := rfl
@[simp] theorem setStatus_status (c : BitVec 8) : (s.setStatus c).status = c := rfl
@[simp] theorem setStatus_outLen (c : BitVec 8) : (s.setStatus c).outLen = s.outLen := rfl
@[simp] theorem setStatus_seed (c : BitVec 8) : (s.setStatus c).seed = s.seed := rfl
@[simp] theorem setStatus_irqEn (c : BitVec 8) : (s.setStatus c).irqEn = s.irqEn := rfl
@[simp] theorem setStatus_a (c : BitVec 8) : (s.setStatus c).a = s.a := rfl
@[simp] theorem setStatus_b (c : BitVec 8) : (s.setStatus c).b = s.b := rfl
@[simp] theorem setStatus_rsmState (c : BitVec 8) : (s.setStatus c).rsmState = s.rsmState := rfl
@[simp] theorem setStatus_rsmLen (c : BitVec 8) : (s.setStatus c).rsmLen = s.rsmLen := rfl
@[simp] theorem setStatus_rsmBuf (c : BitVec 8) : (s.setStatus c).rsmBuf = s.rsmBuf := rfl
@[simp] theorem setStatus_rxLast (c : BitVec 8) : (s.setStatus c).rxLast = s.rxLast := rfl
@[simp] theorem setStatus_rxOkCnt (c : BitVec 8) : (s.setStatus c).rxOkCnt = s.rxOkCnt := rfl
@[simp] theorem setStatus_rxStructCnt (c : BitVec 8) : (s.setStatus c).rxStructCnt = s.rxStructCnt := rfl
@[simp] theorem setStatus_rxCksumCnt (c : BitVec 8) : (s.setStatus c).rxCksumCnt = s.rxCksumCnt := rfl
@[simp] theorem setStatus_rxOvfCnt (c : BitVec 8) : (s.setStatus c).rxOvfCnt = s.rxOvfCnt := rfl
@[simp] theorem setStatus_txcState (c : BitVec 8) : (s.setStatus c).txcState = s.txcState := rfl
@[simp] theorem setStatus_pendBuf (c : BitVec 8) : (s.setStatus c).pendBuf = s.pendBuf := rfl
@[simp] theorem setStatus_pendLen (c : BitVec 8) : (s.setStatus c).pendLen = s.pendLen := rfl
@[simp] theorem setStatus_replyReq (c : BitVec 8) : (s.setStatus c).replyReq = s.replyReq := rfl
@[simp] theorem setStatus_replySeen (c : BitVec 8) : (s.setStatus c).replySeen = s.replySeen := rfl
@[simp] theorem setStatus_replyBuf (c : BitVec 8) : (s.setStatus c).replyBuf = s.replyBuf := rfl
@[simp] theorem setStatus_replyLen (c : BitVec 8) : (s.setStatus c).replyLen = s.replyLen := rfl
@[simp] theorem setStatus_attempt (c : BitVec 8) : (s.setStatus c).attempt = s.attempt := rfl
@[simp] theorem setStatus_result (c : BitVec 8) : (s.setStatus c).result = s.result := rfl
@[simp] theorem setStatus_txcSeed (c : BitVec 8) : (s.setStatus c).txcSeed = s.txcSeed := rfl
@[simp] theorem setStatus_txOut (c : BitVec 8) : (s.setStatus c).txOut = s.txOut := rfl
@[simp] theorem setStatus_pktOut (c : BitVec 8) : (s.setStatus c).pktOut = s.pktOut := rfl
@[simp] theorem setStatus_hostReads (c : BitVec 8) : (s.setStatus c).hostReads = s.hostReads := rfl
@[simp] theorem setStatus_inputs (c : BitVec 8) : (s.setStatus c).inputs = s.inputs := rfl
@[simp] theorem setStatus_entropyIn (c : BitVec 8) : (s.setStatus c).entropyIn = s.entropyIn := rfl
@[simp] theorem setStatus_drawCount (c : BitVec 8) : (s.setStatus c).drawCount = s.drawCount := rfl
@[simp] theorem setStatus_resetCount (c : BitVec 8) : (s.setStatus c).resetCount = s.resetCount := rfl

@[simp] theorem finish_params (c : BitVec 8) : (s.finish c).params = s.params := rfl
@[simp] theorem finish_cmd (c : BitVec 8) : (s.finish c).cmd = s.cmd := rfl
@[simp] theorem finish_status (c : BitVec 8) : (s.finish c).status = s.status := rfl
@[simp] theorem finish_outLen (c : BitVec 8) : (s.finish c).outLen = s.outLen := rfl
@[simp] theorem finish_seed (c : BitVec 8) : (s.finish c).seed = s.seed := rfl
@[simp] theorem finish_irqEn (c : BitVec 8) : (s.finish c).irqEn = s.irqEn := rfl
@[simp] theorem finish_a (c : BitVec 8) : (s.finish c).a = s.a := rfl
@[simp] theorem finish_b (c : BitVec 8) : (s.finish c).b = s.b := rfl
@[simp] theorem finish_rsmState (c : BitVec 8) : (s.finish c).rsmState = s.rsmState := rfl
@[simp] theorem finish_rsmLen (c : BitVec 8) : (s.finish c).rsmLen = s.rsmLen := rfl
@[simp] theorem finish_rsmBuf (c : BitVec 8) : (s.finish c).rsmBuf = s.rsmBuf := rfl
@[simp] theorem finish_rxLast (c : BitVec 8) : (s.finish c).rxLast = s.rxLast := rfl
@[simp] theorem finish_rxOkCnt (c : BitVec 8) : (s.finish c).rxOkCnt = s.rxOkCnt := rfl
@[simp] theorem finish_rxStructCnt (c : BitVec 8) : (s.finish c).rxStructCnt = s.rxStructCnt := rfl
@[simp] theorem finish_rxCksumCnt (c : BitVec 8) : (s.finish c).rxCksumCnt = s.rxCksumCnt := rfl
@[simp] theorem finish_rxOvfCnt (c : BitVec 8) : (s.finish c).rxOvfCnt = s.rxOvfCnt := rfl
@[simp] theorem finish_txcState (c : BitVec 8) : (s.finish c).txcState = .done := rfl
@[simp] theorem finish_pendBuf (c : BitVec 8) : (s.finish c).pendBuf = s.pendBuf := rfl
@[simp] theorem finish_pendLen (c : BitVec 8) : (s.finish c).pendLen = s.pendLen := rfl
@[simp] theorem finish_replyReq (c : BitVec 8) : (s.finish c).replyReq = s.replyReq := rfl
@[simp] theorem finish_replySeen (c : BitVec 8) : (s.finish c).replySeen = s.replySeen := rfl
@[simp] theorem finish_replyBuf (c : BitVec 8) : (s.finish c).replyBuf = s.replyBuf := rfl
@[simp] theorem finish_replyLen (c : BitVec 8) : (s.finish c).replyLen = s.replyLen := rfl
@[simp] theorem finish_attempt (c : BitVec 8) : (s.finish c).attempt = s.attempt := rfl
@[simp] theorem finish_result (c : BitVec 8) : (s.finish c).result = c := rfl
@[simp] theorem finish_txcSeed (c : BitVec 8) : (s.finish c).txcSeed = s.txcSeed := rfl
@[simp] theorem finish_txOut (c : BitVec 8) : (s.finish c).txOut = s.txOut := rfl
@[simp] theorem finish_pktOut (c : BitVec 8) : (s.finish c).pktOut = s.pktOut := rfl
@[simp] theorem finish_hostReads (c : BitVec 8) : (s.finish c).hostReads = s.hostReads := rfl
@[simp] theorem finish_inputs (c : BitVec 8) : (s.finish c).inputs = s.inputs := rfl
@[simp] theorem finish_entropyIn (c : BitVec 8) : (s.finish c).entropyIn = s.entropyIn := rfl
@[simp] theorem finish_drawCount (c : BitVec 8) : (s.finish c).drawCount = s.drawCount := rfl
@[simp] theorem finish_resetCount (c : BitVec 8) : (s.finish c).resetCount = s.resetCount := rfl

@[simp] theorem putOut_params (xs : List Byte) : (s.putOut xs).params = s.params := rfl
@[simp] theorem putOut_cmd (xs : List Byte) : (s.putOut xs).cmd = s.cmd := rfl
@[simp] theorem putOut_status (xs : List Byte) : (s.putOut xs).status = s.status := rfl
@[simp] theorem putOut_outLen (xs : List Byte) : (s.putOut xs).outLen = BitVec.ofNat 11 xs.length := rfl
@[simp] theorem putOut_seed (xs : List Byte) : (s.putOut xs).seed = s.seed := rfl
@[simp] theorem putOut_irqEn (xs : List Byte) : (s.putOut xs).irqEn = s.irqEn := rfl
@[simp] theorem putOut_a (xs : List Byte) : (s.putOut xs).a = s.a := rfl
@[simp] theorem putOut_b (xs : List Byte) : (s.putOut xs).b = writeFront s.b xs := rfl
@[simp] theorem putOut_rsmState (xs : List Byte) : (s.putOut xs).rsmState = s.rsmState := rfl
@[simp] theorem putOut_rsmLen (xs : List Byte) : (s.putOut xs).rsmLen = s.rsmLen := rfl
@[simp] theorem putOut_rsmBuf (xs : List Byte) : (s.putOut xs).rsmBuf = s.rsmBuf := rfl
@[simp] theorem putOut_rxLast (xs : List Byte) : (s.putOut xs).rxLast = s.rxLast := rfl
@[simp] theorem putOut_rxOkCnt (xs : List Byte) : (s.putOut xs).rxOkCnt = s.rxOkCnt := rfl
@[simp] theorem putOut_rxStructCnt (xs : List Byte) : (s.putOut xs).rxStructCnt = s.rxStructCnt := rfl
@[simp] theorem putOut_rxCksumCnt (xs : List Byte) : (s.putOut xs).rxCksumCnt = s.rxCksumCnt := rfl
@[simp] theorem putOut_rxOvfCnt (xs : List Byte) : (s.putOut xs).rxOvfCnt = s.rxOvfCnt := rfl
@[simp] theorem putOut_txcState (xs : List Byte) : (s.putOut xs).txcState = s.txcState := rfl
@[simp] theorem putOut_pendBuf (xs : List Byte) : (s.putOut xs).pendBuf = s.pendBuf := rfl
@[simp] theorem putOut_pendLen (xs : List Byte) : (s.putOut xs).pendLen = s.pendLen := rfl
@[simp] theorem putOut_replyReq (xs : List Byte) : (s.putOut xs).replyReq = s.replyReq := rfl
@[simp] theorem putOut_replySeen (xs : List Byte) : (s.putOut xs).replySeen = s.replySeen := rfl
@[simp] theorem putOut_replyBuf (xs : List Byte) : (s.putOut xs).replyBuf = s.replyBuf := rfl
@[simp] theorem putOut_replyLen (xs : List Byte) : (s.putOut xs).replyLen = s.replyLen := rfl
@[simp] theorem putOut_attempt (xs : List Byte) : (s.putOut xs).attempt = s.attempt := rfl
@[simp] theorem putOut_result (xs : List Byte) : (s.putOut xs).result = s.result := rfl
@[simp] theorem putOut_txcSeed (xs : List Byte) : (s.putOut xs).txcSeed = s.txcSeed := rfl
@[simp] theorem putOut_txOut (xs : List Byte) : (s.putOut xs).txOut = s.txOut := rfl
@[simp] theorem putOut_pktOut (xs : List Byte) : (s.putOut xs).pktOut = s.pktOut := rfl
@[simp] theorem putOut_hostReads (xs : List Byte) : (s.putOut xs).hostReads = s.hostReads := rfl
@[simp] theorem putOut_inputs (xs : List Byte) : (s.putOut xs).inputs = s.inputs := rfl
@[simp] theorem putOut_entropyIn (xs : List Byte) : (s.putOut xs).entropyIn = s.entropyIn := rfl
@[simp] theorem putOut_drawCount (xs : List Byte) : (s.putOut xs).drawCount = s.drawCount := rfl
@[simp] theorem putOut_resetCount (xs : List Byte) : (s.putOut xs).resetCount = s.resetCount := rfl

@[simp] theorem txEmit_params (xs : List Byte) : (s.txEmit xs).params = s.params := rfl
@[simp] theorem txEmit_cmd (xs : List Byte) : (s.txEmit xs).cmd = s.cmd := rfl
@[simp] theorem txEmit_status (xs : List Byte) : (s.txEmit xs).status = s.status := rfl
@[simp] theorem txEmit_outLen (xs : List Byte) : (s.txEmit xs).outLen = s.outLen := rfl
@[simp] theorem txEmit_seed (xs : List Byte) : (s.txEmit xs).seed = s.seed := rfl
@[simp] theorem txEmit_irqEn (xs : List Byte) : (s.txEmit xs).irqEn = s.irqEn := rfl
@[simp] theorem txEmit_a (xs : List Byte) : (s.txEmit xs).a = s.a := rfl
@[simp] theorem txEmit_b (xs : List Byte) : (s.txEmit xs).b = s.b := rfl
@[simp] theorem txEmit_rsmState (xs : List Byte) : (s.txEmit xs).rsmState = s.rsmState := rfl
@[simp] theorem txEmit_rsmLen (xs : List Byte) : (s.txEmit xs).rsmLen = s.rsmLen := rfl
@[simp] theorem txEmit_rsmBuf (xs : List Byte) : (s.txEmit xs).rsmBuf = s.rsmBuf := rfl
@[simp] theorem txEmit_rxLast (xs : List Byte) : (s.txEmit xs).rxLast = s.rxLast := rfl
@[simp] theorem txEmit_rxOkCnt (xs : List Byte) : (s.txEmit xs).rxOkCnt = s.rxOkCnt := rfl
@[simp] theorem txEmit_rxStructCnt (xs : List Byte) : (s.txEmit xs).rxStructCnt = s.rxStructCnt := rfl
@[simp] theorem txEmit_rxCksumCnt (xs : List Byte) : (s.txEmit xs).rxCksumCnt = s.rxCksumCnt := rfl
@[simp] theorem txEmit_rxOvfCnt (xs : List Byte) : (s.txEmit xs).rxOvfCnt = s.rxOvfCnt := rfl
@[simp] theorem txEmit_txcState (xs : List Byte) : (s.txEmit xs).txcState = s.txcState := rfl
@[simp] theorem txEmit_pendBuf (xs : List Byte) : (s.txEmit xs).pendBuf = s.pendBuf := rfl
@[simp] theorem txEmit_pendLen (xs : List Byte) : (s.txEmit xs).pendLen = s.pendLen := rfl
@[simp] theorem txEmit_replyReq (xs : List Byte) : (s.txEmit xs).replyReq = s.replyReq := rfl
@[simp] theorem txEmit_replySeen (xs : List Byte) : (s.txEmit xs).replySeen = s.replySeen := rfl
@[simp] theorem txEmit_replyBuf (xs : List Byte) : (s.txEmit xs).replyBuf = s.replyBuf := rfl
@[simp] theorem txEmit_replyLen (xs : List Byte) : (s.txEmit xs).replyLen = s.replyLen := rfl
@[simp] theorem txEmit_attempt (xs : List Byte) : (s.txEmit xs).attempt = s.attempt := rfl
@[simp] theorem txEmit_result (xs : List Byte) : (s.txEmit xs).result = s.result := rfl
@[simp] theorem txEmit_txcSeed (xs : List Byte) : (s.txEmit xs).txcSeed = s.txcSeed := rfl
@[simp] theorem txEmit_txOut (xs : List Byte) : (s.txEmit xs).txOut = s.txOut ++ xs := rfl
@[simp] theorem txEmit_pktOut (xs : List Byte) : (s.txEmit xs).pktOut = s.pktOut := rfl
@[simp] theorem txEmit_hostReads (xs : List Byte) : (s.txEmit xs).hostReads = s.hostReads := rfl
@[simp] theorem txEmit_inputs (xs : List Byte) : (s.txEmit xs).inputs = s.inputs := rfl
@[simp] theorem txEmit_entropyIn (xs : List Byte) : (s.txEmit xs).entropyIn = s.entropyIn := rfl
@[simp] theorem txEmit_drawCount (xs : List Byte) : (s.txEmit xs).drawCount = s.drawCount := rfl
@[simp] theorem txEmit_resetCount (xs : List Byte) : (s.txEmit xs).resetCount = s.resetCount := rfl

@[simp] theorem pktEmit_params (c : Category) (p : List Byte) : (s.pktEmit c p).params = s.params := rfl
@[simp] theorem pktEmit_cmd (c : Category) (p : List Byte) : (s.pktEmit c p).cmd = s.cmd := rfl
@[simp] theorem pktEmit_status (c : Category) (p : List Byte) : (s.pktEmit c p).status = s.status := rfl
@[simp] theorem pktEmit_outLen (c : Category) (p : List Byte) : (s.pktEmit c p).outLen = s.outLen := rfl
@[simp] theorem pktEmit_seed (c : Category) (p : List Byte) : (s.pktEmit c p).seed = s.seed := rfl
@[simp] theorem pktEmit_irqEn (c : Category) (p : List Byte) : (s.pktEmit c p).irqEn = s.irqEn := rfl
@[simp] theorem pktEmit_a (c : Category) (p : List Byte) : (s.pktEmit c p).a = s.a := rfl
@[simp] theorem pktEmit_b (c : Category) (p : List Byte) : (s.pktEmit c p).b = s.b := rfl
@[simp] theorem pktEmit_rsmState (c : Category) (p : List Byte) : (s.pktEmit c p).rsmState = s.rsmState := rfl
@[simp] theorem pktEmit_rsmLen (c : Category) (p : List Byte) : (s.pktEmit c p).rsmLen = s.rsmLen := rfl
@[simp] theorem pktEmit_rsmBuf (c : Category) (p : List Byte) : (s.pktEmit c p).rsmBuf = s.rsmBuf := rfl
@[simp] theorem pktEmit_rxLast (c : Category) (p : List Byte) : (s.pktEmit c p).rxLast = s.rxLast := rfl
@[simp] theorem pktEmit_rxOkCnt (c : Category) (p : List Byte) : (s.pktEmit c p).rxOkCnt = s.rxOkCnt := rfl
@[simp] theorem pktEmit_rxStructCnt (c : Category) (p : List Byte) : (s.pktEmit c p).rxStructCnt = s.rxStructCnt := rfl
@[simp] theorem pktEmit_rxCksumCnt (c : Category) (p : List Byte) : (s.pktEmit c p).rxCksumCnt = s.rxCksumCnt := rfl
@[simp] theorem pktEmit_rxOvfCnt (c : Category) (p : List Byte) : (s.pktEmit c p).rxOvfCnt = s.rxOvfCnt := rfl
@[simp] theorem pktEmit_txcState (c : Category) (p : List Byte) : (s.pktEmit c p).txcState = s.txcState := rfl
@[simp] theorem pktEmit_pendBuf (c : Category) (p : List Byte) : (s.pktEmit c p).pendBuf = s.pendBuf := rfl
@[simp] theorem pktEmit_pendLen (c : Category) (p : List Byte) : (s.pktEmit c p).pendLen = s.pendLen := rfl
@[simp] theorem pktEmit_replyReq (c : Category) (p : List Byte) : (s.pktEmit c p).replyReq = s.replyReq := rfl
@[simp] theorem pktEmit_replySeen (c : Category) (p : List Byte) : (s.pktEmit c p).replySeen = s.replySeen := rfl
@[simp] theorem pktEmit_replyBuf (c : Category) (p : List Byte) : (s.pktEmit c p).replyBuf = s.replyBuf := rfl
@[simp] theorem pktEmit_replyLen (c : Category) (p : List Byte) : (s.pktEmit c p).replyLen = s.replyLen := rfl
@[simp] theorem pktEmit_attempt (c : Category) (p : List Byte) : (s.pktEmit c p).attempt = s.attempt := rfl
@[simp] theorem pktEmit_result (c : Category) (p : List Byte) : (s.pktEmit c p).result = s.result := rfl
@[simp] theorem pktEmit_txcSeed (c : Category) (p : List Byte) : (s.pktEmit c p).txcSeed = s.txcSeed := rfl
@[simp] theorem pktEmit_txOut (c : Category) (p : List Byte) : (s.pktEmit c p).txOut = s.txOut := rfl
@[simp] theorem pktEmit_pktOut (c : Category) (p : List Byte) : (s.pktEmit c p).pktOut = s.pktOut ++ [⟨c, p⟩] := rfl
@[simp] theorem pktEmit_hostReads (c : Category) (p : List Byte) : (s.pktEmit c p).hostReads = s.hostReads := rfl
@[simp] theorem pktEmit_inputs (c : Category) (p : List Byte) : (s.pktEmit c p).inputs = s.inputs := rfl
@[simp] theorem pktEmit_entropyIn (c : Category) (p : List Byte) : (s.pktEmit c p).entropyIn = s.entropyIn := rfl
@[simp] theorem pktEmit_drawCount (c : Category) (p : List Byte) : (s.pktEmit c p).drawCount = s.drawCount := rfl
@[simp] theorem pktEmit_resetCount (c : Category) (p : List Byte) : (s.pktEmit c p).resetCount = s.resetCount := rfl

@[simp] theorem startFrame_params : s.startFrame.params = s.params := rfl
@[simp] theorem startFrame_cmd : s.startFrame.cmd = s.cmd := rfl
@[simp] theorem startFrame_status : s.startFrame.status = s.status := rfl
@[simp] theorem startFrame_outLen : s.startFrame.outLen = s.outLen := rfl
@[simp] theorem startFrame_seed : s.startFrame.seed = s.seed := rfl
@[simp] theorem startFrame_irqEn : s.startFrame.irqEn = s.irqEn := rfl
@[simp] theorem startFrame_a : s.startFrame.a = s.a := rfl
@[simp] theorem startFrame_b : s.startFrame.b = s.b := rfl
@[simp] theorem startFrame_rsmState : s.startFrame.rsmState = .waitFlag2 := rfl
@[simp] theorem startFrame_rsmLen : s.startFrame.rsmLen = 1 := rfl
@[simp] theorem startFrame_rsmBuf : s.startFrame.rsmBuf = s.rsmBuf.set 0 FLAG1 := rfl
@[simp] theorem startFrame_rxLast : s.startFrame.rxLast = s.rxLast := rfl
@[simp] theorem startFrame_rxOkCnt : s.startFrame.rxOkCnt = s.rxOkCnt := rfl
@[simp] theorem startFrame_rxStructCnt : s.startFrame.rxStructCnt = s.rxStructCnt := rfl
@[simp] theorem startFrame_rxCksumCnt : s.startFrame.rxCksumCnt = s.rxCksumCnt := rfl
@[simp] theorem startFrame_rxOvfCnt : s.startFrame.rxOvfCnt = s.rxOvfCnt := rfl
@[simp] theorem startFrame_txcState : s.startFrame.txcState = s.txcState := rfl
@[simp] theorem startFrame_pendBuf : s.startFrame.pendBuf = s.pendBuf := rfl
@[simp] theorem startFrame_pendLen : s.startFrame.pendLen = s.pendLen := rfl
@[simp] theorem startFrame_replyReq : s.startFrame.replyReq = s.replyReq := rfl
@[simp] theorem startFrame_replySeen : s.startFrame.replySeen = s.replySeen := rfl
@[simp] theorem startFrame_replyBuf : s.startFrame.replyBuf = s.replyBuf := rfl
@[simp] theorem startFrame_replyLen : s.startFrame.replyLen = s.replyLen := rfl
@[simp] theorem startFrame_attempt : s.startFrame.attempt = s.attempt := rfl
@[simp] theorem startFrame_result : s.startFrame.result = s.result := rfl
@[simp] theorem startFrame_txcSeed : s.startFrame.txcSeed = s.txcSeed := rfl
@[simp] theorem startFrame_txOut : s.startFrame.txOut = s.txOut := rfl
@[simp] theorem startFrame_pktOut : s.startFrame.pktOut = s.pktOut := rfl
@[simp] theorem startFrame_hostReads : s.startFrame.hostReads = s.hostReads := rfl
@[simp] theorem startFrame_inputs : s.startFrame.inputs = s.inputs := rfl
@[simp] theorem startFrame_entropyIn : s.startFrame.entropyIn = s.entropyIn := rfl
@[simp] theorem startFrame_drawCount : s.startFrame.drawCount = s.drawCount := rfl
@[simp] theorem startFrame_resetCount : s.startFrame.resetCount = s.resetCount := rfl

@[simp] theorem idleFrame_params : s.idleFrame.params = s.params := rfl
@[simp] theorem idleFrame_cmd : s.idleFrame.cmd = s.cmd := rfl
@[simp] theorem idleFrame_status : s.idleFrame.status = s.status := rfl
@[simp] theorem idleFrame_outLen : s.idleFrame.outLen = s.outLen := rfl
@[simp] theorem idleFrame_seed : s.idleFrame.seed = s.seed := rfl
@[simp] theorem idleFrame_irqEn : s.idleFrame.irqEn = s.irqEn := rfl
@[simp] theorem idleFrame_a : s.idleFrame.a = s.a := rfl
@[simp] theorem idleFrame_b : s.idleFrame.b = s.b := rfl
@[simp] theorem idleFrame_rsmState : s.idleFrame.rsmState = .waitFlag1 := rfl
@[simp] theorem idleFrame_rsmLen : s.idleFrame.rsmLen = 0 := rfl
@[simp] theorem idleFrame_rsmBuf : s.idleFrame.rsmBuf = s.rsmBuf := rfl
@[simp] theorem idleFrame_rxLast : s.idleFrame.rxLast = s.rxLast := rfl
@[simp] theorem idleFrame_rxOkCnt : s.idleFrame.rxOkCnt = s.rxOkCnt := rfl
@[simp] theorem idleFrame_rxStructCnt : s.idleFrame.rxStructCnt = s.rxStructCnt := rfl
@[simp] theorem idleFrame_rxCksumCnt : s.idleFrame.rxCksumCnt = s.rxCksumCnt := rfl
@[simp] theorem idleFrame_rxOvfCnt : s.idleFrame.rxOvfCnt = s.rxOvfCnt := rfl
@[simp] theorem idleFrame_txcState : s.idleFrame.txcState = s.txcState := rfl
@[simp] theorem idleFrame_pendBuf : s.idleFrame.pendBuf = s.pendBuf := rfl
@[simp] theorem idleFrame_pendLen : s.idleFrame.pendLen = s.pendLen := rfl
@[simp] theorem idleFrame_replyReq : s.idleFrame.replyReq = s.replyReq := rfl
@[simp] theorem idleFrame_replySeen : s.idleFrame.replySeen = s.replySeen := rfl
@[simp] theorem idleFrame_replyBuf : s.idleFrame.replyBuf = s.replyBuf := rfl
@[simp] theorem idleFrame_replyLen : s.idleFrame.replyLen = s.replyLen := rfl
@[simp] theorem idleFrame_attempt : s.idleFrame.attempt = s.attempt := rfl
@[simp] theorem idleFrame_result : s.idleFrame.result = s.result := rfl
@[simp] theorem idleFrame_txcSeed : s.idleFrame.txcSeed = s.txcSeed := rfl
@[simp] theorem idleFrame_txOut : s.idleFrame.txOut = s.txOut := rfl
@[simp] theorem idleFrame_pktOut : s.idleFrame.pktOut = s.pktOut := rfl
@[simp] theorem idleFrame_hostReads : s.idleFrame.hostReads = s.hostReads := rfl
@[simp] theorem idleFrame_inputs : s.idleFrame.inputs = s.inputs := rfl
@[simp] theorem idleFrame_entropyIn : s.idleFrame.entropyIn = s.entropyIn := rfl
@[simp] theorem idleFrame_drawCount : s.idleFrame.drawCount = s.drawCount := rfl
@[simp] theorem idleFrame_resetCount : s.idleFrame.resetCount = s.resetCount := rfl

@[simp] theorem logOverflow_params : s.logOverflow.params = s.params := rfl
@[simp] theorem logOverflow_cmd : s.logOverflow.cmd = s.cmd := rfl
@[simp] theorem logOverflow_status : s.logOverflow.status = s.status := rfl
@[simp] theorem logOverflow_outLen : s.logOverflow.outLen = s.outLen := rfl
@[simp] theorem logOverflow_seed : s.logOverflow.seed = s.seed := rfl
@[simp] theorem logOverflow_irqEn : s.logOverflow.irqEn = s.irqEn := rfl
@[simp] theorem logOverflow_a : s.logOverflow.a = s.a := rfl
@[simp] theorem logOverflow_b : s.logOverflow.b = s.b := rfl
@[simp] theorem logOverflow_rsmState : s.logOverflow.rsmState = s.rsmState := rfl
@[simp] theorem logOverflow_rsmLen : s.logOverflow.rsmLen = s.rsmLen := rfl
@[simp] theorem logOverflow_rsmBuf : s.logOverflow.rsmBuf = s.rsmBuf := rfl
@[simp] theorem logOverflow_rxLast : s.logOverflow.rxLast = RX_BUFFER_OVERFLOW := rfl
@[simp] theorem logOverflow_rxOkCnt : s.logOverflow.rxOkCnt = s.rxOkCnt := rfl
@[simp] theorem logOverflow_rxStructCnt : s.logOverflow.rxStructCnt = s.rxStructCnt := rfl
@[simp] theorem logOverflow_rxCksumCnt : s.logOverflow.rxCksumCnt = s.rxCksumCnt := rfl
@[simp] theorem logOverflow_rxOvfCnt : s.logOverflow.rxOvfCnt = s.rxOvfCnt + 1 := rfl
@[simp] theorem logOverflow_txcState : s.logOverflow.txcState = s.txcState := rfl
@[simp] theorem logOverflow_pendBuf : s.logOverflow.pendBuf = s.pendBuf := rfl
@[simp] theorem logOverflow_pendLen : s.logOverflow.pendLen = s.pendLen := rfl
@[simp] theorem logOverflow_replyReq : s.logOverflow.replyReq = s.replyReq := rfl
@[simp] theorem logOverflow_replySeen : s.logOverflow.replySeen = s.replySeen := rfl
@[simp] theorem logOverflow_replyBuf : s.logOverflow.replyBuf = s.replyBuf := rfl
@[simp] theorem logOverflow_replyLen : s.logOverflow.replyLen = s.replyLen := rfl
@[simp] theorem logOverflow_attempt : s.logOverflow.attempt = s.attempt := rfl
@[simp] theorem logOverflow_result : s.logOverflow.result = s.result := rfl
@[simp] theorem logOverflow_txcSeed : s.logOverflow.txcSeed = s.txcSeed := rfl
@[simp] theorem logOverflow_txOut : s.logOverflow.txOut = s.txOut := rfl
@[simp] theorem logOverflow_pktOut : s.logOverflow.pktOut = s.pktOut := rfl
@[simp] theorem logOverflow_hostReads : s.logOverflow.hostReads = s.hostReads := rfl
@[simp] theorem logOverflow_inputs : s.logOverflow.inputs = s.inputs := rfl
@[simp] theorem logOverflow_entropyIn : s.logOverflow.entropyIn = s.entropyIn := rfl
@[simp] theorem logOverflow_drawCount : s.logOverflow.drawCount = s.drawCount := rfl
@[simp] theorem logOverflow_resetCount : s.logOverflow.resetCount = s.resetCount := rfl

@[simp] theorem beginTransaction_params (arg : Byte) (len : Len) : (s.beginTransaction arg len).params = s.params := rfl
@[simp] theorem beginTransaction_cmd (arg : Byte) (len : Len) : (s.beginTransaction arg len).cmd = s.cmd := rfl
@[simp] theorem beginTransaction_status (arg : Byte) (len : Len) : (s.beginTransaction arg len).status = s.status := rfl
@[simp] theorem beginTransaction_outLen (arg : Byte) (len : Len) : (s.beginTransaction arg len).outLen = s.outLen := rfl
@[simp] theorem beginTransaction_seed (arg : Byte) (len : Len) : (s.beginTransaction arg len).seed = s.seed := rfl
@[simp] theorem beginTransaction_irqEn (arg : Byte) (len : Len) : (s.beginTransaction arg len).irqEn = s.irqEn := rfl
@[simp] theorem beginTransaction_a (arg : Byte) (len : Len) : (s.beginTransaction arg len).a = s.a := rfl
@[simp] theorem beginTransaction_b (arg : Byte) (len : Len) : (s.beginTransaction arg len).b = s.b := rfl
@[simp] theorem beginTransaction_rsmState (arg : Byte) (len : Len) : (s.beginTransaction arg len).rsmState = s.rsmState := rfl
@[simp] theorem beginTransaction_rsmLen (arg : Byte) (len : Len) : (s.beginTransaction arg len).rsmLen = s.rsmLen := rfl
@[simp] theorem beginTransaction_rsmBuf (arg : Byte) (len : Len) : (s.beginTransaction arg len).rsmBuf = s.rsmBuf := rfl
@[simp] theorem beginTransaction_rxLast (arg : Byte) (len : Len) : (s.beginTransaction arg len).rxLast = s.rxLast := rfl
@[simp] theorem beginTransaction_rxOkCnt (arg : Byte) (len : Len) : (s.beginTransaction arg len).rxOkCnt = s.rxOkCnt := rfl
@[simp] theorem beginTransaction_rxStructCnt (arg : Byte) (len : Len) : (s.beginTransaction arg len).rxStructCnt = s.rxStructCnt := rfl
@[simp] theorem beginTransaction_rxCksumCnt (arg : Byte) (len : Len) : (s.beginTransaction arg len).rxCksumCnt = s.rxCksumCnt := rfl
@[simp] theorem beginTransaction_rxOvfCnt (arg : Byte) (len : Len) : (s.beginTransaction arg len).rxOvfCnt = s.rxOvfCnt := rfl
@[simp] theorem beginTransaction_txcState (arg : Byte) (len : Len) : (s.beginTransaction arg len).txcState = s.txcState := rfl
@[simp] theorem beginTransaction_pendBuf (arg : Byte) (len : Len) : (s.beginTransaction arg len).pendBuf = writeFront s.pendBuf (slice s.a len.toNat) := rfl
@[simp] theorem beginTransaction_pendLen (arg : Byte) (len : Len) : (s.beginTransaction arg len).pendLen = BitVec.ofNat 9 len.toNat := rfl
@[simp] theorem beginTransaction_replyReq (arg : Byte) (len : Len) : (s.beginTransaction arg len).replyReq = replyRequired arg := rfl
@[simp] theorem beginTransaction_replySeen (arg : Byte) (len : Len) : (s.beginTransaction arg len).replySeen = false := rfl
@[simp] theorem beginTransaction_replyBuf (arg : Byte) (len : Len) : (s.beginTransaction arg len).replyBuf = s.replyBuf := rfl
@[simp] theorem beginTransaction_replyLen (arg : Byte) (len : Len) : (s.beginTransaction arg len).replyLen = 0 := rfl
@[simp] theorem beginTransaction_attempt (arg : Byte) (len : Len) : (s.beginTransaction arg len).attempt = 0 := rfl
@[simp] theorem beginTransaction_result (arg : Byte) (len : Len) : (s.beginTransaction arg len).result = NONE := rfl
@[simp] theorem beginTransaction_txcSeed (arg : Byte) (len : Len) : (s.beginTransaction arg len).txcSeed = s.txcSeed := rfl
@[simp] theorem beginTransaction_txOut (arg : Byte) (len : Len) : (s.beginTransaction arg len).txOut = s.txOut := rfl
@[simp] theorem beginTransaction_pktOut (arg : Byte) (len : Len) : (s.beginTransaction arg len).pktOut = s.pktOut := rfl
@[simp] theorem beginTransaction_hostReads (arg : Byte) (len : Len) : (s.beginTransaction arg len).hostReads = s.hostReads := rfl
@[simp] theorem beginTransaction_inputs (arg : Byte) (len : Len) : (s.beginTransaction arg len).inputs = s.inputs := rfl
@[simp] theorem beginTransaction_entropyIn (arg : Byte) (len : Len) : (s.beginTransaction arg len).entropyIn = s.entropyIn := rfl
@[simp] theorem beginTransaction_drawCount (arg : Byte) (len : Len) : (s.beginTransaction arg len).drawCount = s.drawCount := rfl
@[simp] theorem beginTransaction_resetCount (arg : Byte) (len : Len) : (s.beginTransaction arg len).resetCount = s.resetCount := rfl

@[simp] theorem afterDraw_params : s.afterDraw.params = s.params := by
  unfold State.afterDraw; split <;> rfl
@[simp] theorem afterDraw_cmd : s.afterDraw.cmd = s.cmd := by
  unfold State.afterDraw; split <;> rfl
@[simp] theorem afterDraw_status : s.afterDraw.status = s.status := by
  unfold State.afterDraw; split <;> rfl
@[simp] theorem afterDraw_outLen : s.afterDraw.outLen = s.outLen := by
  unfold State.afterDraw; split <;> rfl
@[simp] theorem afterDraw_seed : s.afterDraw.seed = s.seed := by
  unfold State.afterDraw; split <;> rfl
@[simp] theorem afterDraw_irqEn : s.afterDraw.irqEn = s.irqEn := by
  unfold State.afterDraw; split <;> rfl
@[simp] theorem afterDraw_a : s.afterDraw.a = s.a := by
  unfold State.afterDraw; split <;> rfl
@[simp] theorem afterDraw_b : s.afterDraw.b = s.b := by
  unfold State.afterDraw; split <;> rfl
@[simp] theorem afterDraw_rsmState : s.afterDraw.rsmState = s.rsmState := by
  unfold State.afterDraw; split <;> rfl
@[simp] theorem afterDraw_rsmLen : s.afterDraw.rsmLen = s.rsmLen := by
  unfold State.afterDraw; split <;> rfl
@[simp] theorem afterDraw_rsmBuf : s.afterDraw.rsmBuf = s.rsmBuf := by
  unfold State.afterDraw; split <;> rfl
@[simp] theorem afterDraw_rxLast : s.afterDraw.rxLast = s.rxLast := by
  unfold State.afterDraw; split <;> rfl
@[simp] theorem afterDraw_rxOkCnt : s.afterDraw.rxOkCnt = s.rxOkCnt := by
  unfold State.afterDraw; split <;> rfl
@[simp] theorem afterDraw_rxStructCnt : s.afterDraw.rxStructCnt = s.rxStructCnt := by
  unfold State.afterDraw; split <;> rfl
@[simp] theorem afterDraw_rxCksumCnt : s.afterDraw.rxCksumCnt = s.rxCksumCnt := by
  unfold State.afterDraw; split <;> rfl
@[simp] theorem afterDraw_rxOvfCnt : s.afterDraw.rxOvfCnt = s.rxOvfCnt := by
  unfold State.afterDraw; split <;> rfl
@[simp] theorem afterDraw_txcState : s.afterDraw.txcState = s.txcState := by
  unfold State.afterDraw; split <;> rfl
@[simp] theorem afterDraw_pendBuf : s.afterDraw.pendBuf = s.pendBuf := by
  unfold State.afterDraw; split <;> rfl
@[simp] theorem afterDraw_pendLen : s.afterDraw.pendLen = s.pendLen := by
  unfold State.afterDraw; split <;> rfl
@[simp] theorem afterDraw_replyReq : s.afterDraw.replyReq = s.replyReq := by
  unfold State.afterDraw; split <;> rfl
@[simp] theorem afterDraw_replySeen : s.afterDraw.replySeen = s.replySeen := by
  unfold State.afterDraw; split <;> rfl
@[simp] theorem afterDraw_replyBuf : s.afterDraw.replyBuf = s.replyBuf := by
  unfold State.afterDraw; split <;> rfl
@[simp] theorem afterDraw_replyLen : s.afterDraw.replyLen = s.replyLen := by
  unfold State.afterDraw; split <;> rfl
@[simp] theorem afterDraw_attempt : s.afterDraw.attempt = s.attempt := by
  unfold State.afterDraw; split <;> rfl
@[simp] theorem afterDraw_result : s.afterDraw.result = s.result := by
  unfold State.afterDraw; split <;> rfl
@[simp] theorem afterDraw_txcSeed : s.afterDraw.txcSeed = s.txcSeed := by
  unfold State.afterDraw; split <;> rfl
@[simp] theorem afterDraw_txOut : s.afterDraw.txOut = s.txOut := by
  unfold State.afterDraw; split <;> rfl
@[simp] theorem afterDraw_pktOut : s.afterDraw.pktOut = s.pktOut := by
  unfold State.afterDraw; split <;> rfl
@[simp] theorem afterDraw_hostReads : s.afterDraw.hostReads = s.hostReads := by
  unfold State.afterDraw; split <;> rfl
@[simp] theorem afterDraw_inputs : s.afterDraw.inputs = s.inputs := by
  unfold State.afterDraw; split <;> rfl
@[simp] theorem afterDraw_resetCount : s.afterDraw.resetCount = s.resetCount := by
  unfold State.afterDraw; split <;> rfl

@[simp] theorem logBadFrame_params (e : CodecError) : (s.logBadFrame e).params = s.params := by
  unfold State.logBadFrame; split <;> rfl
@[simp] theorem logBadFrame_cmd (e : CodecError) : (s.logBadFrame e).cmd = s.cmd := by
  unfold State.logBadFrame; split <;> rfl
@[simp] theorem logBadFrame_status (e : CodecError) : (s.logBadFrame e).status = s.status := by
  unfold State.logBadFrame; split <;> rfl
@[simp] theorem logBadFrame_outLen (e : CodecError) : (s.logBadFrame e).outLen = s.outLen := by
  unfold State.logBadFrame; split <;> rfl
@[simp] theorem logBadFrame_seed (e : CodecError) : (s.logBadFrame e).seed = s.seed := by
  unfold State.logBadFrame; split <;> rfl
@[simp] theorem logBadFrame_irqEn (e : CodecError) : (s.logBadFrame e).irqEn = s.irqEn := by
  unfold State.logBadFrame; split <;> rfl
@[simp] theorem logBadFrame_a (e : CodecError) : (s.logBadFrame e).a = s.a := by
  unfold State.logBadFrame; split <;> rfl
@[simp] theorem logBadFrame_b (e : CodecError) : (s.logBadFrame e).b = s.b := by
  unfold State.logBadFrame; split <;> rfl
@[simp] theorem logBadFrame_rsmState (e : CodecError) : (s.logBadFrame e).rsmState = s.rsmState := by
  unfold State.logBadFrame; split <;> rfl
@[simp] theorem logBadFrame_rsmLen (e : CodecError) : (s.logBadFrame e).rsmLen = s.rsmLen := by
  unfold State.logBadFrame; split <;> rfl
@[simp] theorem logBadFrame_rsmBuf (e : CodecError) : (s.logBadFrame e).rsmBuf = s.rsmBuf := by
  unfold State.logBadFrame; split <;> rfl
@[simp] theorem logBadFrame_rxOkCnt (e : CodecError) : (s.logBadFrame e).rxOkCnt = s.rxOkCnt := by
  unfold State.logBadFrame; split <;> rfl
@[simp] theorem logBadFrame_rxOvfCnt (e : CodecError) : (s.logBadFrame e).rxOvfCnt = s.rxOvfCnt := by
  unfold State.logBadFrame; split <;> rfl
@[simp] theorem logBadFrame_txcState (e : CodecError) : (s.logBadFrame e).txcState = s.txcState := by
  unfold State.logBadFrame; split <;> rfl
@[simp] theorem logBadFrame_pendBuf (e : CodecError) : (s.logBadFrame e).pendBuf = s.pendBuf := by
  unfold State.logBadFrame; split <;> rfl
@[simp] theorem logBadFrame_pendLen (e : CodecError) : (s.logBadFrame e).pendLen = s.pendLen := by
  unfold State.logBadFrame; split <;> rfl
@[simp] theorem logBadFrame_replyReq (e : CodecError) : (s.logBadFrame e).replyReq = s.replyReq := by
  unfold State.logBadFrame; split <;> rfl
@[simp] theorem logBadFrame_replySeen (e : CodecError) : (s.logBadFrame e).replySeen = s.replySeen := by
  unfold State.logBadFrame; split <;> rfl
@[simp] theorem logBadFrame_replyBuf (e : CodecError) : (s.logBadFrame e).replyBuf = s.replyBuf := by
  unfold State.logBadFrame; split <;> rfl
@[simp] theorem logBadFrame_replyLen (e : CodecError) : (s.logBadFrame e).replyLen = s.replyLen := by
  unfold State.logBadFrame; split <;> rfl
@[simp] theorem logBadFrame_attempt (e : CodecError) : (s.logBadFrame e).attempt = s.attempt := by
  unfold State.logBadFrame; split <;> rfl
@[simp] theorem logBadFrame_result (e : CodecError) : (s.logBadFrame e).result = s.result := by
  unfold State.logBadFrame; split <;> rfl
@[simp] theorem logBadFrame_txcSeed (e : CodecError) : (s.logBadFrame e).txcSeed = s.txcSeed := by
  unfold State.logBadFrame; split <;> rfl
@[simp] theorem logBadFrame_txOut (e : CodecError) : (s.logBadFrame e).txOut = s.txOut := by
  unfold State.logBadFrame; split <;> rfl
@[simp] theorem logBadFrame_pktOut (e : CodecError) : (s.logBadFrame e).pktOut = s.pktOut := by
  unfold State.logBadFrame; split <;> rfl
@[simp] theorem logBadFrame_hostReads (e : CodecError) : (s.logBadFrame e).hostReads = s.hostReads := by
  unfold State.logBadFrame; split <;> rfl
@[simp] theorem logBadFrame_inputs (e : CodecError) : (s.logBadFrame e).inputs = s.inputs := by
  unfold State.logBadFrame; split <;> rfl
@[simp] theorem logBadFrame_entropyIn (e : CodecError) : (s.logBadFrame e).entropyIn = s.entropyIn := by
  unfold State.logBadFrame; split <;> rfl
@[simp] theorem logBadFrame_drawCount (e : CodecError) : (s.logBadFrame e).drawCount = s.drawCount := by
  unfold State.logBadFrame; split <;> rfl
@[simp] theorem logBadFrame_resetCount (e : CodecError) : (s.logBadFrame e).resetCount = s.resetCount := by
  unfold State.logBadFrame; split <;> rfl

/-- 42_reassembler.md R189: RX_LAST holds the code of the error, whichever counter counted it. -/
@[simp] theorem logBadFrame_rxLast (e : CodecError) : (s.logBadFrame e).rxLast = e.code := by
  unfold State.logBadFrame; split <;> rfl

end Sys2Proof.Machine
end

