-- ==== Sys2Proof/Laws/Ops.lean ====
section
/-! SUPPORT. One lemma per shared operation that says once every state it can leave, so that proofs
about the instructions cite it and unfold nothing. -/

namespace Sys2Proof.Machine

/-- A codec result as a command's outcome (41_frame_codec.md R152 to R154). -/
theorem reportCodec_cases (s : State) (r : Except CodecError (List Byte)) :
    (∃ out, r = .ok out ∧ s.reportCodec r = (s.putOut out).setStatus OK) ∨
    (∃ e, r = .error e ∧ s.reportCodec r = s.setStatus e.code) := by
  cases r with
  | ok out => exact .inl ⟨out, rfl, rfl⟩
  | error e => exact .inr ⟨e, rfl, rfl⟩

/-- The state in which an attempt encodes its frame: the seed is drawn and in TXC_SEED. -/
def State.seeded (s : State) : State := { s.afterDraw with txcSeed := s.drawnSeed.setWidth 7 }

@[simp] theorem seeded_txcSeed (s : State) : s.seeded.txcSeed = s.drawnSeed.setWidth 7 := rfl
@[simp] theorem seeded_pending (s : State) : s.seeded.pending = s.pending := by
  simp [State.seeded, State.pending]
@[simp] theorem seeded_params (s : State) : s.seeded.params = s.params := by simp [State.seeded]

/-- An attempt puts a frame on TX and waits for its loopback, or ends the transaction with the
encoder's error (43_correlator.md R221). -/
theorem txAttempt_cases (s : State) :
    (∃ out, enc [s.drawnSeed] (scr s.params.key s.pending s.drawnSeed) = .ok out ∧
      s.txAttempt = { s.seeded.txEmit out with txcState := .waitLoopback }) ∨
    (∃ e, enc [s.drawnSeed] (scr s.params.key s.pending s.drawnSeed) = .error e ∧
      s.txAttempt = s.seeded.finish e.code) := by
  have h : s.txAttempt = match enc [s.drawnSeed] (scr s.seeded.params.key s.seeded.pending
      s.drawnSeed) with
    | .error e => s.seeded.finish e.code
    | .ok out => { s.seeded.txEmit out with txcState := .waitLoopback } := rfl
  rw [h, seeded_params, seeded_pending]
  cases enc [s.drawnSeed] (scr s.params.key s.pending s.drawnSeed) with
  | ok out => exact .inl ⟨out, rfl, rfl⟩
  | error e => exact .inr ⟨e, rfl, rfl⟩

/-- The echo ends the transaction, or the reply is waited for (43_correlator.md R214). -/
theorem loopbackOk_cases (s : State) :
    ((s.replyReq = false ∨ s.replySeen = true) ∧ s.loopbackOk = s.finish TXN_OK) ∨
    (s.replyReq = true ∧ s.replySeen = false ∧
      s.loopbackOk = { s with txcState := .waitReply }) := by
  unfold State.loopbackOk
  split
  · exact .inl ⟨‹_›, rfl⟩
  · rename_i h
    simp only [not_or, Bool.not_eq_false, Bool.not_eq_true] at h
    exact .inr ⟨h.1, h.2, rfl⟩

/-- The state with a reply captured (43_correlator.md R213). -/
def State.withReply (s : State) (p : List Byte) : State :=
  { s with replyBuf := writeFront s.replyBuf p
           replyLen := BitVec.ofNat 9 p.length
           replySeen := true }

/-- A reply ends the transaction in WAIT_REPLY, and is only kept otherwise (43_correlator.md R213). -/
theorem captureReply_cases (s : State) (p : List Byte) :
    (s.txcState = .waitReply ∧ s.captureReply p = (s.withReply p).finish TXN_OK) ∨
    (s.txcState ≠ .waitReply ∧ s.captureReply p = s.withReply p) := by
  unfold State.captureReply
  by_cases h : s.txcState = .waitReply
  · exact .inl ⟨h, if_pos h⟩
  · exact .inr ⟨h, if_neg h⟩

/-- Every way out of the dispatcher (43_correlator.md R211). -/
theorem dispatchPacket_cases (s : State) (op : Byte) (args : List Byte) :
    (s.txcState = .waitLoopback ∧ op = s.pendOpcode ∧
      (op :: args).length = s.pendLen.toNat ∧ op :: args = s.pending ∧
      s.dispatchPacket op args = s.loopbackOk) ∨
    (s.txcState = .waitLoopback ∧ op = s.pendOpcode ∧
      ¬ ((op :: args).length = s.pendLen.toNat ∧ op :: args = s.pending) ∧
      s.dispatchPacket op args = s.finish TXN_LOOPBACK_MISMATCH) ∨
    (¬ (s.txcState = .waitLoopback ∧ op = s.pendOpcode) ∧ s.waiting = true ∧
      s.replyReq = true ∧ op = s.pendOpcode + 1 ∧
      s.dispatchPacket op args = s.captureReply (op :: args)) ∨
    (¬ (s.txcState = .waitLoopback ∧ op = s.pendOpcode) ∧
      ¬ (s.waiting = true ∧ s.replyReq = true ∧ op = s.pendOpcode + 1) ∧
      s.dispatchPacket op args = s.pktEmit (category op) (op :: args)) := by
  unfold State.dispatchPacket
  split
  · rename_i h
    split
    · rename_i hs; exact .inl ⟨h.1, h.2, hs.1, hs.2, rfl⟩
    · exact .inr (.inl ⟨h.1, h.2, ‹_›, rfl⟩)
  · split
    · rename_i hr; exact .inr (.inr (.inl ⟨‹_›, hr.1, hr.2.1, hr.2.2, rfl⟩))
    · exact .inr (.inr (.inr ⟨‹_›, ‹_›, rfl⟩))

/-- The state with `b` appended to the reassembler's buffer, where there is room. -/
def State.appended (s : State) (b : Byte) (h : s.rsmLen.toNat < Config.ACC_CAP) : State :=
  { s with rsmBuf := s.rsmBuf.set s.rsmLen.toNat b, rsmLen := s.rsmLen + 1 }

/-- An append succeeds exactly where there is an element for the byte (20_memory.md R61). -/
theorem append?_cases (s : State) (b : Byte) :
    (∃ h : s.rsmLen.toNat < Config.ACC_CAP, s.append? b = some (s.appended b h)) ∨
    (Config.ACC_CAP ≤ s.rsmLen.toNat ∧ s.append? b = none) := by
  unfold State.append?
  split
  · exact .inl ⟨‹_›, rfl⟩
  · exact .inr ⟨by omega, rfl⟩

/-- An append makes the accumulated length one more; it cannot wrap. -/
theorem appended_rsmLen (s : State) (b : Byte) (h : s.rsmLen.toNat < Config.ACC_CAP) :
    (s.appended b h).rsmLen.toNat = s.rsmLen.toNat + 1 := by
  simp only [Config.ACC_CAP] at h
  have : (1 : BitVec 9).toNat = 1 := rfl
  simp only [State.appended, BitVec.toNat_add, this]
  omega

/-- An append puts its byte after the accumulated ones. -/
theorem appended_accumulated (s : State) (b : Byte) (h : s.rsmLen.toNat < Config.ACC_CAP) :
    (s.appended b h).accumulated = s.accumulated ++ [b] := by
  rw [State.accumulated, appended_rsmLen]
  exact slice_set_end s.rsmBuf s.rsmLen.toNat b h

/-- After an append that fills the buffer the frame is dropped (42_reassembler.md R190). -/
theorem checkOverflow_cases (s : State) :
    (s.rsmLen.toNat = Config.ACC_CAP ∧ s.checkOverflow = s.logOverflow.idleFrame) ∨
    (s.rsmLen.toNat ≠ Config.ACC_CAP ∧ s.checkOverflow = s) := by
  unfold State.checkOverflow
  split
  · exact .inl ⟨‹_›, rfl⟩
  · exact .inr ⟨‹_›, rfl⟩

/-- An accepted frame is an empty packet or a dispatched one (42_reassembler.md R188). -/
theorem acceptFrame_cases (s : State) (seed : Byte) (d : List Byte) :
    (scr s.params.key d seed = [] ∧ s.acceptFrame seed d =
      State.idleFrame { s with rxOkCnt := s.rxOkCnt + 1, rxLast := RX_EMPTY }) ∨
    (∃ op args, scr s.params.key d seed = op :: args ∧ s.acceptFrame seed d =
      (State.dispatchPacket { s with rxOkCnt := s.rxOkCnt + 1, rxLast := RX_OK } op
        args).idleFrame) := by
  unfold State.acceptFrame
  cases h : scr s.params.key d seed with
  | nil => exact .inl ⟨rfl, by simp [h]⟩
  | cons op args => exact .inr ⟨op, args, rfl, by simp [h]⟩

/-- The terminator of a frame: delivered, logged as bad, or stuck (42_reassembler.md R187). -/
theorem completeFrame_cases (s : State) :
    (∃ seed d, dec s.accumulated = .ok (seed :: d) ∧
      s.completeFrame = .next (s.acceptFrame seed d)) ∨
    (dec s.accumulated = .ok [] ∧ s.completeFrame = .fault .stuckNoSeed) ∨
    (∃ e, dec s.accumulated = .error e ∧
      s.completeFrame = .next (s.logBadFrame e).startFrame) := by
  unfold State.completeFrame
  rcases h : dec s.accumulated with e | (_ | ⟨seed, d⟩)
  · exact .inr (.inr ⟨e, rfl, by simp⟩)
  · exact .inr (.inl ⟨rfl, by simp⟩)
  · exact .inl ⟨seed, d, rfl, by simp⟩

end Sys2Proof.Machine
end

