-- ==== Sys2Proof/Laws/Step.lean ====
section
/-! SUPPORT. What a step and its parts can answer: the inversion of a step, of a received byte and of
a run, and which operations are commands. -/

namespace Sys2Proof.Machine

/-- Where a next state comes from: no event was pending, or one that decoded was run. -/
theorem step_next {s t : State} (h : step s = .next t) :
    (s.inputs = [] ∧ t = s) ∨
    ∃ e rest i, s.inputs = e :: rest ∧ decode e = .ok i ∧
      exec i { s with inputs := rest } = .next t := by
  unfold step at h
  split at h
  · cases h; exact .inl ⟨‹_›, rfl⟩
  · rename_i e rest hs
    split at h
    · rename_i i hd
      exact .inr ⟨e, rest, i, hs, hd, h⟩
    · cases h

/-- A packet's operation is the dispatch of the packet, as one function. -/
theorem exec_of_packet {i : Instr} {op : Byte} {args : List Byte} (s : State)
    (h : i.packet? = some (op, args)) : exec i s = .next (s.dispatchPacket op args) := by
  cases i <;> simp only [Instr.packet?, Option.some.injEq, Prod.mk.injEq, reduceCtorEq] at h <;>
    obtain ⟨rfl, rfl⟩ := h <;> rfl

/-- The receipt of a byte, by the reassembler's state. -/
theorem execRxByte_waitFlag1 {s : State} (b : Byte) (h : s.rsmState = .waitFlag1) :
    execRxByte b s = rxWaitFlag1 b s := by simp [execRxByte, h]

theorem execRxByte_waitFlag2 {s : State} (b : Byte) (h : s.rsmState = .waitFlag2) :
    execRxByte b s = rxWaitFlag2 b s := by simp [execRxByte, h]

theorem execRxByte_waitTerminator {s : State} (b : Byte) (h : s.rsmState = .waitTerminator) :
    execRxByte b s = rxWaitTerminator b s := by simp [execRxByte, h]

/-- Everything a received byte can do when the step ends normally (42_reassembler.md R184 to R190). -/
theorem execRxByte_next {b : Byte} {s t : State} (h : execRxByte b s = .next t) :
    t = s ∨ t = s.startFrame ∨ t = s.idleFrame ∨
    (∃ hl, s.rsmState = .waitFlag2 ∧ b = FLAG2 ∧
      t = { s.appended FLAG2 hl with rsmState := .waitTerminator }) ∨
    (∃ hl, s.rsmState = .waitTerminator ∧ b ≠ FLAG1 ∧ t = (s.appended b hl).checkOverflow) ∨
    (∃ hl, s.rsmState = .waitTerminator ∧ b = FLAG1 ∧ 4 ≤ s.rsmLen.toNat ∧
      (s.appended FLAG1 hl).completeFrame = .next t) := by
  cases hs : s.rsmState with
  | waitFlag1 =>
    rw [execRxByte_waitFlag1 b hs, rxWaitFlag1] at h
    split at h <;> cases h
    · exact .inr (.inl rfl)
    · exact .inl rfl
  | waitFlag2 =>
    rw [execRxByte_waitFlag2 b hs, rxWaitFlag2] at h
    split at h
    · obtain ⟨hl, ha⟩ | ⟨-, ha⟩ := append?_cases s FLAG2 <;> rw [ha] at h <;> cases h
      exact .inr (.inr (.inr (.inl ⟨hl, rfl, ‹_›, rfl⟩)))
    · split at h <;> cases h
      · exact .inl rfl
      · exact .inr (.inr (.inl rfl))
  | waitTerminator =>
    rw [execRxByte_waitTerminator b hs, rxWaitTerminator] at h
    split at h
    · cases h; exact .inr (.inl rfl)
    · rename_i hb
      obtain ⟨hl, ha⟩ | ⟨-, ha⟩ := append?_cases s b <;> simp only [ha] at h
      · split at h
        · rename_i hf; subst hf
          exact .inr (.inr (.inr (.inr (.inr ⟨hl, rfl, rfl, by
            simp only [true_and, not_lt] at hb; exact hb, h⟩))))
        · cases h
          exact .inr (.inr (.inr (.inr (.inl ⟨hl, rfl, ‹_›, rfl⟩))))
      · cases h

/-! ### Runs -/

@[simp] theorem runInstrs_nil (s : State) : runInstrs [] s = .next s := rfl

theorem runInstrs_cons {i : Instr} {is : List Instr} {s t : State} (h : exec i s = .next t) :
    runInstrs (i :: is) s = runInstrs is t := by simp [runInstrs, h]

/-- A run goes through the state its first part ends in. -/
theorem runInstrs_append {is js : List Instr} {s t : State} (h : runInstrs is s = .next t) :
    runInstrs (is ++ js) s = runInstrs js t := by
  induction is generalizing s with
  | nil => simp at h; simp [h]
  | cons i is ih =>
    rw [List.cons_append]
    simp only [runInstrs] at h ⊢
    split at h
    · exact ih h
    · cases h
    · cases h

theorem feed_append {xs ys : List Byte} {s t : State} (h : feed xs s = .next t) :
    feed (xs ++ ys) s = feed ys t := by
  rw [feed, List.map_append]; exact runInstrs_append h

end Sys2Proof.Machine
end

