-- ==== Sys2Proof/Tests/Slice0.lean ====
section
/-! SUPPORT. Tests. Expected results are those of spec/95_test_vectors.md (the id stands in each
comment) or of the opcode table; the state is that file's: test key TK (KEY[i] = i), three retries.
Then, for each obligation with hypotheses, a witness that meets them, clause by clause. -/

open Sys2Proof Sys2Proof.Machine Sys2Proof.Form

set_option Elab.async false

namespace Sys2Proof.Tests

/-! ### The test state -/

/-- `k` bytes counting up from `b`. -/
def count (b : Byte) : Nat → List Byte
  | 0 => []
  | k + 1 => b :: count (b + 1) k

theorem length_count (b : Byte) (k : Nat) : (count b k).length = k := by
  induction k generalizing b with
  | zero => rfl
  | succ k ih => simp [count, ih]

/-- The test key TK: KEY[i] = i. -/
def tk : Vector Byte 64 := ⟨(count 0 64).toArray, by simp [length_count]⟩

/-- A buffer of zeros. -/
def zeros (k : Nat) : Vector Byte k := ⟨(List.replicate k 0).toArray, by simp⟩

/-- The reset state with TK, three retries and zeros in the buffers. -/
def s0 : State :=
  { State.reset with
    params := ⟨tk, .three⟩, a := zeros 1024, b := zeros 1024, rsmBuf := zeros 256
    pendBuf := zeros 256, replyBuf := zeros 256 }

/-- `s` with A[0..) = `xs`. -/
def withA (xs : List Byte) (s : State := s0) : State := { s with a := writeFront s.a xs }
/-- `s` with the next draw `d` (ENTROPY d). -/
def entropy (d : Byte) (s : State := s0) : State := { s with entropyIn := [d] }
/-- `s` with the reassembler in WAIT_TERMINATOR and `xs` accumulated. -/
def accumulated (xs : List Byte) (s : State := s0) : State :=
  { s with rsmState := .waitTerminator, rsmBuf := writeFront s.rsmBuf xs
           rsmLen := BitVec.ofNat 9 xs.length }
/-- `s` in correlator state `x` with the request `q` pending and the reply flag `r`. -/
def pending (x : TxcState) (q : List Byte) (r : Bool) (s : State := s0) : State :=
  { s with txcState := x, pendBuf := writeFront s.pendBuf q
           pendLen := BitVec.ofNat 9 q.length, replyReq := r }

/-- The outcome is a next state with property `p`. -/
def ends (r : Result) (p : State → Bool) : Bool :=
  match r with
  | .next t => p t
  | _ => false

theorem next_of_ends {r : Result} {p : State → Bool} (h : ends r p = true) :
    ∃ t, r = .next t ∧ p t = true := by
  cases r with
  | next t => exact ⟨t, rfl, h⟩
  | fault _ => cases h
  | refused _ => cases h

/-- The request Q, the reply R and the keypress K of 95_test_vectors.md 2.5. -/
def q : List Byte := [0x6A, 0x03, 0x27, 0x01, 0x01]
def f10 : List Byte := [0x7E, 0x7E, 0xFF, 0x10, 0x7A, 0x12, 0x35, 0x12, 0x15, 0xF8, 0x7E]

/-! ### Well-formedness -/

theorem test_wf_refuses_long_dispatch :
    (Instr.dispatch 0x11 (List.replicate 251 0)).wellFormed = false := by decide +kernel
theorem test_wf_refuses_long_packet :
    (Instr.pkt6A (List.replicate 251 0)).wellFormed = false := by decide +kernel
theorem test_wf_refuses_long_other_packet :
    (Instr.pktOther 0x14 (List.replicate 251 0)).wellFormed = false := by decide +kernel
theorem test_wf_refuses_listed_opcode_as_other :
    (Instr.pktOther 0x85 []).wellFormed = false := by decide
theorem test_wf_refuses_wide_byte_write :
    (Instr.memWrite 0x1000 .byte 0x100).wellFormed = false := by decide

/-! ### Decoding (words from the masks of spec/opcode_table.json) -/

theorem test_decode_scrambler :
    decodeTableWord 32 0b00000001000000000000000000000101 = some (.scramble 0 5) ∧
    decodeTableWord 32 0b00000010000100000000000000000101 = some (.descramble 0x10 5) := by decide
theorem test_decode_codec :
    decodeTableWord 32 0b00000011000000000000000000000001 = some (.encode 0 1) ∧
    decodeTableWord 32 0b00000100000100000000000000000101 = some (.encodeH 0x10 5) ∧
    decodeTableWord 32 0b00000101000000000000000000001011 = some (.decode 0 11) := by decide
theorem test_decode_control :
    decodeTableWord 32 0b00000000101010111100110111101111 = some (.nop 0xAB 0xCDEF) ∧
    decodeTableWord 32 0b00000110000000000000000000000110 = some (.copyB2a 0 6) := by decide
theorem test_decode_transaction :
    decodeTableWord 32 0b00001000000000010000000000000101 = some (.txnSend 1 5) ∧
    decodeTableWord 32 0b00001001000000000000000000000000 = some (.txnAck 0 0) := by decide
theorem test_decode_reserved :
    decodeTableWord 32 0x07FFFFFF = some (.reserved07 0xFFFFFF) ∧
    decodeTableWord 32 0x0A000000 = some (.reserved0A 0) ∧
    decodeTableWord 32 0x0BFFFFFF = some (.reserved0A 0x1FFFFFF) ∧
    decodeTableWord 32 0x0FFFFFFF = some (.reserved0C 0x3FFFFFF) ∧
    decodeTableWord 32 0x1FFFFFFF = some (.reserved10 0xFFFFFFF) ∧
    decodeTableWord 32 0x3FFFFFFF = some (.reserved20 0x1FFFFFFF) ∧
    decodeTableWord 32 0x7FFFFFFF = some (.reserved40 0x3FFFFFFF) ∧
    decodeTableWord 32 0xFFFFFFFF = some (.reserved80 0x7FFFFFFF) := by decide
theorem test_decode_reports :
    decodeTableWord 8 0x11 = some (.pkt11 []) ∧ decodeTableWord 8 0x12 = some (.pkt12 []) ∧
    decodeTableWord 8 0x13 = some (.pkt13 []) ∧ decodeTableWord 8 0x15 = some (.pkt15 []) ∧
    decodeTableWord 8 0x16 = some (.pkt16 []) ∧
    decodeTableWord 8 0x10 = some (.pktOther 0x10 []) := by decide
theorem test_decode_control_packets :
    decodeTableWord 8 0x6A = some (.pkt6A []) ∧ decodeTableWord 8 0x6B = some (.pkt6B []) ∧
    decodeTableWord 8 0x6C = some (.pkt6C []) ∧ decodeTableWord 8 0x6D = some (.pkt6D []) ∧
    decodeTableWord 8 0x76 = some (.pkt76 []) ∧ decodeTableWord 8 0x77 = some (.pkt77 []) ∧
    decodeTableWord 8 0x7C = some (.pkt7C []) ∧ decodeTableWord 8 0x7D = some (.pkt7D []) ∧
    decodeTableWord 8 0x80 = some (.pkt80 []) ∧ decodeTableWord 8 0x81 = some (.pkt81 []) ∧
    decodeTableWord 8 0x82 = some (.pkt82 []) ∧ decodeTableWord 8 0x83 = some (.pkt83 []) ∧
    decodeTableWord 8 0x84 = some (.pkt84 []) ∧ decodeTableWord 8 0x85 = some (.pkt85 []) := by
  decide
theorem test_decode_firmware_packets :
    decodeTableWord 8 0x70 = some (.pkt70 []) ∧ decodeTableWord 8 0x71 = some (.pkt71 []) ∧
    decodeTableWord 8 0x72 = some (.pkt72 []) ∧ decodeTableWord 8 0x73 = some (.pkt73 []) ∧
    decodeTableWord 8 0x74 = some (.pkt74 []) ∧ decodeTableWord 8 0x75 = some (.pkt75 []) := by
  decide
theorem test_decode_port_events :
    decode ⟨.rx, [0x7E]⟩ = .ok (.rxByte 0x7E) ∧ decode ⟨.timeout, []⟩ = .ok .timeout ∧
    decode ⟨.reset, []⟩ = .ok .reset ∧
    decode ⟨.dispatch, [0x11, 4, 0]⟩ = .ok (.dispatch 0x11 [4, 0]) := by decide
theorem test_decode_host_accesses :
    decode ⟨.memRead, [0x05, 0x1B, 1]⟩ = .ok (.memRead 0x1B05 .byte) ∧
    decode ⟨.memRead, [0x3C, 0x00, 4]⟩ = .ok (.memRead 0x003C .word) ∧
    decode ⟨.memWrite, [0x00, 0x14, 1, 0x55]⟩ = .ok (.memWrite 0x1400 .byte 0x55) ∧
    decode ⟨.memWrite, [0x00, 0x00, 4, 0xEF, 0xCD, 0xAB, 0x00]⟩
      = .ok (.memWrite 0x0000 .word 0x00ABCDEF) := by decide
theorem test_decode_refuses_by_name :
    decode ⟨.cmd, [0, 0, 0]⟩ = .error .wrongLength ∧
    decode ⟨.memRead, [0, 0, 2]⟩ = .error .badWidth ∧
    decode ⟨.packet, []⟩ = .error .badPacketLength ∧
    decode ⟨.dispatch, List.replicate 252 0⟩ = .error .badPacketLength := by decide +kernel

/-! ### Commands -/

/-- V-CT2. -/
theorem test_nop : ends (exec (.nop 0xAB 0xCDEF) { s0 with status := 2 }) (fun t =>
    t.status = 0 ∧ t.cmd = 0x00ABCDEF) = true := by decide +kernel
/-- V-CT3. -/
theorem test_reserved07 : ends (exec (.reserved07 0) s0) (fun t =>
    t.status = 1 ∧ t.cmd = 0x07000000) = true := by decide +kernel
/-- V-CT5. -/
theorem test_reserved0A : ends (exec (.reserved0A 0) s0) (fun t =>
    t.status = 1 ∧ t.cmd = 0x0A000000) = true := by decide +kernel
/-- V-CT4. -/
theorem test_reserved80 : ends (exec (.reserved80 0x7F123456) s0) (fun t =>
    t.status = 1 ∧ t.cmd = 0xFF123456) = true := by decide +kernel
/-- The other reserved rows: CMD holds the row's lowest word (R251). -/
theorem test_reserved_rows :
    ends (exec (.reserved0C 0) s0) (fun t => t.status = 1 ∧ t.cmd = 0x0C000000) = true ∧
    ends (exec (.reserved10 0) s0) (fun t => t.status = 1 ∧ t.cmd = 0x10000000) = true ∧
    ends (exec (.reserved20 0) s0) (fun t => t.status = 1 ∧ t.cmd = 0x20000000) = true ∧
    ends (exec (.reserved40 0) s0) (fun t => t.status = 1 ∧ t.cmd = 0x40000000) = true := by
  decide +kernel
/-- V-SC2: the key index wraps. -/
theorem test_scramble : ends (exec (.scramble 0 3) (entropy 0x3F)) (fun t =>
    t.b.toList.take 4 = [0x3F, 0x00, 0x01, 0x00] ∧ t.outLen = 3 ∧ t.seed = 0x3F ∧
    t.entropyIn = []) = true := by decide +kernel
/-- V-SC5: no draw is made. -/
theorem test_scramble_len : ends (exec (.scramble 0 1025) (entropy 0x11)) (fun t =>
    t.status = 2 ∧ t.entropyIn = [0x11] ∧ t.outLen = 0) = true := by decide +kernel
/-- V-SC8: a seed above 0x7F. -/
theorem test_descramble : ends (exec (.descramble 0xD0 2) (withA [0x7A, 0x12])) (fun t =>
    t.b.toList.take 2 = [0x6A, 0x03] ∧ t.outLen = 2 ∧ t.seed = 0) = true := by decide +kernel
/-- V-EN3. -/
theorem test_encode : ends (exec (.encode 0 4) (withA [0x7E, 0x7D, 0x00, 0xFF])) (fun t =>
    t.b.toList.take 12 = [0x7E, 0x7E, 0xFF, 0x7D, 0x5E, 0x7D, 0x5D, 0x00, 0xFF, 0xFA, 0x7E, 0] ∧
    t.outLen = 11 ∧ t.status = 0) = true := by decide +kernel
/-- V-EN11: 517 bytes do not fit. -/
theorem test_encode_overflow : ends (exec (.encode 0 256) (withA (List.replicate 256 0x7E)))
    (fun t => t.status = 6 ∧ t.outLen = 0 ∧ t.b[0] = 0) = true := by decide +kernel
/-- V-EN17. -/
theorem test_encodeH : ends (exec (.encodeH 0x7D 1) (withA [0x01])) (fun t =>
    t.b.toList.take 9 = [0x7E, 0x7E, 0xFF, 0x7D, 0x5D, 0x01, 0x7D, 0x5E, 0x7E] ∧
    t.outLen = 9) = true := by decide +kernel
/-- V-EN20. -/
theorem test_encodeH_overflow :
    ends (exec (.encodeH 0x7E 256) (withA (List.replicate 256 0x7E)))
      (fun t => t.status = 6 ∧ t.outLen = 0) = true := by decide +kernel
/-- V-DE17. -/
theorem test_decode : ends (exec (.decode 0 11)
    (withA [0x7E, 0x7E, 0xFF, 0x7D, 0x5E, 0x7D, 0x5D, 0x00, 0xFF, 0xFA, 0x7E])) (fun t =>
    t.b.toList.take 4 = [0x7E, 0x7D, 0x00, 0xFF] ∧ t.outLen = 4 ∧ t.status = 0) = true := by
  decide +kernel
/-- V-DE4, V-DE5, V-DE7, V-DE9 to V-DE15, V-DE20: each error, and the order of the checks. -/
theorem test_dec_errors :
    dec [0x7E, 0xFF, 0x11, 0x7E] = .error .frameTooShort ∧
    dec [0x7E, 0x7E, 0xFF, 0x00, 0x7E] = .error .markerNotFound ∧
    dec [0x7E, 0xFF, 0x7E, 0x00, 0x00] = .error .frameTooShort ∧
    dec [0x7E, 0x7E, 0xFF, 0x11, 0x12, 0x7E] = .error .checksumMismatch ∧
    dec [0x7E, 0x7E, 0xFF, 0x11, 0x11] = .error .markerNotFound ∧
    dec [0x7E, 0x7E, 0xFF, 0x11, 0x11, 0x00] = .error .terminatorNotFound ∧
    dec [0x7E, 0x7E, 0xFF, 0x11, 0x7D, 0x7E, 0x00] = .error .invalidEscape ∧
    dec [0x7E, 0x7E, 0xFF, 0x7D, 0x7D, 0x5D, 0x7E] = .error .invalidEscape ∧
    dec [0x7E, 0xFF, 0x7D, 0x5E, 0x7E] = .error .checksumMismatch := by decide +kernel
/-- V-CT6. -/
theorem test_copyB2a : ends (exec (.copyB2a 0 3)
    { s0 with b := writeFront s0.b [1, 2, 3, 4], a := writeFront s0.a [9, 9, 9, 9] }) (fun t =>
    t.a.toList.take 4 = [1, 2, 3, 9] ∧ t.outLen = 3) = true := by decide +kernel
/-- V-CT8. -/
theorem test_copyB2a_len : ends (exec (.copyB2a 0 1025) (withA [5])) (fun t =>
    t.status = 2 ∧ t.a[0] = 5 ∧ t.outLen = 0) = true := by decide +kernel
/-- V-TX1. -/
theorem test_txnSend : ends (exec (.txnSend 1 5) (entropy 0x90 (withA q))) (fun t =>
    t.status = 0 ∧ t.txOut = f10 ∧ t.txcWord = 0x00000101 ∧ t.pendLen = 5 ∧
    t.pendBuf.toList.take 5 = q ∧ t.txcSeed = 0x10 ∧ t.seed = 0) = true := by decide +kernel
/-- V-TX22: A scrambles to 256 times 7E. -/
theorem test_txnSend_overflow : ends (exec (.txnSend 0 256) (entropy 0xFE
    (withA (scr tk (List.replicate 256 0x7E) 0x7E)))) (fun t =>
    t.status = 0 ∧ t.txOut = [] ∧ t.txcState = .done ∧ t.result = 6 ∧ t.pendLen = 256) = true := by
  decide +kernel
/-- V-TX4. -/
theorem test_txnAck : ends (exec (.txnAck 0 0) { pending .done q true with
    replySeen := true, result := 0x30 }) (fun t =>
    t.status = 0 ∧ t.txcWord = 0x00300300) = true := by decide +kernel
/-- V-TX19. -/
theorem test_txnAck_idle : ends (exec (.txnAck 0 0) s0) (fun t =>
    t.status = 4 ∧ t.txcState = .idle) = true := by decide +kernel

/-! ### Receive side, timer, reset -/

/-- V-RA3: the terminator of the frame. -/
theorem test_rxByte_packet : ends (exec (.rxByte 0x7E)
    (accumulated [0x7E, 0xFF, 0x10, 0x7A, 0x12, 0x24, 0x12, 0x15, 0xE7])) (fun t =>
    t.pktOut = [⟨.control, [0x6A, 0x03, 0x36, 0x01, 0x01]⟩] ∧ t.rxLast = 0x20 ∧ t.rxOkCnt = 1 ∧
    t.rsmWord = 0) = true := by decide +kernel
/-- V-RA11: the terminator of a frame with a wrong checksum starts the next one. -/
theorem test_rxByte_checksum : ends (exec (.rxByte 0x7E)
    (accumulated [0x7E, 0xFF, 0x10, 0x7A, 0x12, 0x24, 0x12, 0x15, 0xE6])) (fun t =>
    t.pktOut = [] ∧ t.rxLast = 0x14 ∧ t.rxCksumCnt = 1 ∧ t.rsmWord = 0x00000101) = true := by
  decide +kernel
/-- V-TX13. -/
theorem test_timeout : ends (exec .timeout (entropy 0xB2
    { pending .waitLoopback q true with attempt := 1 })) (fun t =>
    t.attempt = 2 ∧ t.txcSeed = 0x32 ∧ t.txcState = .waitLoopback ∧
    t.txOut = [0x7E, 0x7E, 0xFF, 0x32, 0x58, 0x30, 0x13, 0x34, 0x37, 0x38, 0x7E]) = true := by
  decide +kernel
/-- V-TX15. -/
theorem test_timeout_end : ends (exec .timeout (entropy 0x01
    { pending .waitLoopback q true with attempt := 3 })) (fun t =>
    t.txcWord = 0x00313103 ∧ t.txOut = [] ∧ t.entropyIn = [0x01]) = true := by decide +kernel
/-- V-RS1. -/
theorem test_reset : ends (exec .reset { pending .done q true with
    irqEn := true, result := 0x30, replySeen := true, cmd := 5, seed := 3, rsmLen := 7 }) (fun t =>
    t.txcWord = 0 ∧ t.cmd = 0 ∧ t.rsmWord = 0 ∧ t.paramWord = 0x00004003 ∧ t.irq = false ∧
    t.pendLen = 0 ∧ t.seed = 0 ∧ t.irqEn = false) = true := by decide +kernel
/-- V-TX2 and V-TX8: the echo, and a packet with the request's opcode that is not it. -/
theorem test_dispatch_loopback :
    ends (exec (.dispatch 0x6A [0x03, 0x27, 0x01, 0x01]) (pending .waitLoopback q true))
      (fun t => t.txcState = .waitReply ∧ t.pktOut = []) = true ∧
    ends (exec (.dispatch 0x6A [0x03, 0x27, 0x01, 0x00]) (pending .waitLoopback q true))
      (fun t => t.txcState = .done ∧ t.result = 0x32) = true := by decide +kernel
/-- V-TX3 and V-TX6: the reply after the echo, and before it. -/
theorem test_dispatch_reply :
    ends (exec (.dispatch 0x6B [0x03, 0x27, 0x01, 0x01]) (pending .waitReply q true)) (fun t =>
      t.txcWord = 0x00300303 ∧ t.replyLen = 5 ∧
      t.replyBuf.toList.take 5 = [0x6B, 0x03, 0x27, 0x01, 0x01]) = true ∧
    ends (exec (.dispatch 0x6B [0x03, 0x27, 0x01, 0x01]) (pending .waitLoopback q true)) (fun t =>
      t.txcState = .waitLoopback ∧ t.replySeen = true ∧ t.result = 0) = true := by decide +kernel
/-- V-TX24: the opcode 0xFF has the reply 0x00. -/
theorem test_dispatch_reply_wraps :
    ends (exec (.pktOther 0x00 [0x09]) (pending .waitReply [0xFF, 0x01] true)) (fun t =>
      t.result = 0x30 ∧ t.replyBuf.toList.take 2 = [0x00, 0x09]) = true := by decide +kernel
/-- R108: the category code of each opcode of the table, in its order, and of one that it lacks. -/
theorem test_category_codes :
    (listedOpcodes ++ [0x14]).map (fun op => (category op).code) =
      [1, 2, 3, 4, 5, 6, 6, 6, 6, 7, 7, 7, 7, 7, 7, 6, 6, 6, 6, 6, 6, 6, 6, 6, 6, 0] := by decide
/-- R108: a packet of each kind in IDLE. -/
theorem test_packet_rows :
    ends (exec (.pkt11 [4]) s0) (fun t => t.pktOut = [⟨.keypress, [0x11, 4]⟩]) = true ∧
    ends (exec (.pkt16 [4]) s0) (fun t => t.pktOut = [⟨.sync, [0x16, 4]⟩]) = true ∧
    ends (exec (.pkt75 [4]) s0) (fun t => t.pktOut = [⟨.fwUpdate, [0x75, 4]⟩]) = true ∧
    ends (exec (.pkt85 [4]) s0) (fun t => t.pktOut = [⟨.control, [0x85, 4]⟩]) = true ∧
    ends (exec (.pktOther 0x14 [4]) s0) (fun t => t.pktOut = [⟨.unknown, [0x14, 4]⟩]) = true := by
  decide +kernel

/-! ### Host access -/

/-- V-CT9, V-CT12, V-CT14, V-CT15. -/
theorem test_memRead_word : s0.hostRead 0x003C .word = 0x00004003 ∧
    { s0 with cmd := 7 }.hostRead 0x0002 .word = 0 ∧
    (withA [5]).hostRead 0x1000 .word = 0 ∧ s0.hostRead 0x0040 .word = 0 := by decide +kernel
/-- V-CT10, V-CT13, and the last byte of window A. -/
theorem test_memRead_byte : s0.hostRead 0x1B05 .byte = 5 ∧
    { s0 with status := 1 }.hostRead 0x0004 .byte = 0 ∧
    (withA (List.replicate 1024 9)).hostRead 0x13FF .byte = 9 ∧
    (withA (List.replicate 1024 9)).hostRead 0x1400 .byte = 0 := by decide +kernel
/-- V-CT11, V-CT16. -/
theorem test_memWrite_word :
    ends (exec (.memWrite 0x0010 .word 0xFFFFFFFF) s0) (fun t => t.irqEn) = true ∧
    ends (exec (.memWrite 0x0004 .word 0) { s0 with status := 1 }) (fun t => t.status = 1) = true := by
  decide +kernel
/-- V-CT17, and the last byte of window A. -/
theorem test_memWrite_byte :
    ends (exec (.memWrite 0x1400 .byte 0x55) s0) (fun t => t.b[0] = 0 ∧ t.a[1023] = 0) = true ∧
    ends (exec (.memWrite 0x13FF .byte 0x55) s0) (fun t => t.a[1023] = 0x55 ∧ t.a[1022] = 0)
      = true := by decide +kernel

/-! ### The step -/

/-- A table word is the next operation (log 10). -/
theorem test_step_runs_word : ends (step (s0.withFetchWord 32 0x0600000B)) (fun t =>
    t.cmd = 0x0600000B ∧ t.outLen = 11 ∧ t.inputs = []) = true := by decide +kernel
theorem test_step_runs_packet : ends (step (s0.withFetchWord 8 0x13)) (fun t =>
    t.pktOut = [⟨.touch, [0x13]⟩]) = true := by decide +kernel

/-! ### Witnesses: encoding and step -/

theorem witness_DecodeOfEncodeIsIdentity :
    (Instr.pkt11 (List.replicate 250 7)).wellFormed = true ∧
    (Instr.pktOther 0x14 []).wellFormed = true ∧
    (Instr.memWrite 0x13FF .byte 0xFF).wellFormed = true ∧
    (Instr.memWrite 0xFFFF .word 0xFFFFFFFF).wellFormed = true := by decide +kernel
theorem witness_EncodeOfDecodeIsIdentity :
    decode ⟨.packet, 0x85 :: List.replicate 250 7⟩ = .ok (.pkt85 (List.replicate 250 7)) := by
  decide +kernel
theorem witness_EveryWordIsOneCommandRow :
    commandRows[10]? = some (0xFE000000, 0x0A000000) ∧
    (0x0BFFFFFF : Word) &&& 0xFE000000 = 0x0A000000 := by decide
theorem witness_StepRunsTheNextEvent :
    { s0 with inputs := [⟨.timeout, []⟩, ⟨.reset, []⟩] }.inputs = ⟨.timeout, []⟩ :: [⟨.reset, []⟩] ∧
    decode ⟨.timeout, []⟩ = .ok .timeout ∧
    { s0 with inputs := [⟨.cmd, []⟩] }.inputs = ⟨.cmd, []⟩ :: [] ∧
    decode ⟨.cmd, []⟩ = .error .wrongLength ∧ s0.inputs = [] ∧
    decodeTableWord 8 0x11 = some (.pkt11 []) := by decide
theorem witness_DrawTakesTheNextEntropyByte :
    (entropy 0x90).entropyIn = 0x90 :: [] ∧ s0.entropyIn = [] := by decide

/-! ### Witnesses: commands -/

/-- Both sides of the bound of SCRAMBLE, DESCRAMBLE, COPY_B2A and DECODE. -/
theorem witness_ScrambleResult :
    (1024 : Len).toNat ≤ 1024 ∧ 1024 < (1025 : Len).toNat ∧
    ends (exec (.scramble 0 1024) s0) (fun t => t.status = 0 ∧ t.outLen = 1024) = true ∧
    ends (exec (.scramble 0 1025) s0) (fun t => t.status = 2) = true := by decide +kernel
theorem witness_DescrambleResult :
    ends (exec (.descramble 0xFF 1024) s0) (fun t => t.status = 0 ∧ t.outLen = 1024) = true ∧
    ends (exec (.descramble 0xFF 1025) s0) (fun t => t.status = 2) = true := by decide +kernel
theorem witness_DescrambleUndoesScramble :
    (1024 : Len).toNat ≤ 1024 ∧ ∃ t, exec (.scramble 0 1024) (entropy 0xFF) = .next t := by
  refine ⟨by decide, ?_⟩
  have h : ends (exec (.scramble 0 1024) (entropy 0xFF)) (fun _ => true) = true := by
    decide +kernel
  obtain ⟨t, ht, -⟩ := next_of_ends h
  exact ⟨t, ht⟩
theorem witness_CopyB2aResult :
    ends (exec (.copyB2a 0 1024) s0) (fun t => t.status = 0 ∧ t.outLen = 1024) = true ∧
    ends (exec (.copyB2a 0 1025) s0) (fun t => t.status = 2) = true := by decide +kernel
/-- V-EN14, V-EN11, V-EN12: each side of both bounds of ENCODE. -/
theorem witness_EncodeResult :
    256 < (257 : Len).toNat ∧ (256 : Len).toNat ≤ 256 ∧
    516 < (wireFrame [] ((withA (List.replicate 256 0x7E)).a.toList.take 256)).length ∧
    (wireFrame [] ((withA (List.replicate 255 0x7E ++ [0])).a.toList.take 256)).length = 516 := by
  decide +kernel
/-- V-EN20, V-EN19: each side of the capacity of ENCODE_H. -/
theorem witness_EncodeHResult :
    518 < (wireFrame [0x7E] ((withA (List.replicate 256 0x7E)).a.toList.take 256)).length ∧
    (wireFrame [0x00] ((withA (List.replicate 256 0x7E)).a.toList.take 256)).length = 518 := by
  decide +kernel
/-- 256 times 7E needs 513 and 512 escapes and bytes; the bounds are 511 and 512. -/
theorem witness_EncoderOverflowsExactlyPastCapacity :
    511 + 0 < 256 + escapes [] (List.replicate 256 0x7E) ∧
    256 + escapes [0x00] (List.replicate 256 0x7E) = 511 + 1 := by decide +kernel
theorem witness_WireFrameShape :
    enc [0x7D] [0x01] = .ok [0x7E, 0x7E, 0xFF, 0x7D, 0x5D, 0x01, 0x7D, 0x5E, 0x7E] := by
  decide +kernel
theorem witness_DecodingAFrameRestoresItsBytes :
    0 < (([] : List Byte) ++ List.replicate 255 0x7E ++ [0]).length ∧
    enc [] (List.replicate 255 0x7E ++ [0]) = .ok (frame [] (List.replicate 255 0x7E ++ [0])) ∧
    enc [0x7E] [] = .ok (frame [0x7E] []) := by decide +kernel
theorem witness_EmptyFrameDoesNotDecode :
    enc [0x00] [] = .ok [0x7E, 0x7E, 0xFF, 0x00, 0x00, 0x7E] ∧
    (accumulated [0x7E, 0xFF, 0x11]).rsmState = .waitTerminator ∧
    (accumulated [0x7E, 0xFF, 0x11]).rsmLen = 3 := by decide +kernel
theorem witness_ChecksumCatchesEverySingleBitFlip :
    ([0x3F, 0x3F] : List Byte)[1]? = some 0x3F ∧ 7 < 8 ∧
    byteSum [0x3F, 0x3F] = byteSum [0x7E] ∧ [(0x3F : Byte), 0x3F] ≠ [] ∧
    [(1 : Byte), 2].Perm [2, 1] := by decide
theorem witness_DecodeResult :
    1024 < (1025 : Len).toNat ∧ (1024 : Len).toNat ≤ 1024 ∧
    dec ((withA [0x7E, 0xFF, 0x11, 0x11, 0x7E]).a.toList.take 1024) = .ok [0x11] ∧
    dec ((withA [0x7E, 0xFF, 0x11, 0x12, 0x7E]).a.toList.take 1024) = .error .checksumMismatch ∧
    dec (s0.a.toList.take 0) = .error .frameTooShort := by decide +kernel
theorem witness_BytesAfterTheTerminatorAreIgnored :
    2 ≤ [(0x11 : Byte), 0x11].length ∧ (0x7E : Byte) ∉ [0x11, 0x11] := by decide
theorem witness_EveryCommandCompletes :
    (Instr.memWrite 0x0000 .word 0xFF123456).issuedWord? = some 0xFF123456 ∧
    (Instr.txnSend 1 5).issuedWord? = some 0x08010005 := by decide
theorem witness_FailingCommandWritesOnlyStatusAndCmd :
    ends (exec (.memWrite 0x0000 .word 0xFF123456) s0) (fun t => t.status ≠ 0) = true ∧
    ends (exec (.txnSend 1 0) s0) (fun t => t.status ≠ 0) = true := by decide +kernel

/-! ### Witnesses: correlator -/

/-- Busy, both length bounds, the smallest and the largest request, and one that overflows. -/
theorem witness_TxnSendResult :
    (pending .done q true).txcState ≠ .idle ∧ s0.txcState = .idle ∧
    (0 : Len).toNat < 1 ∧ 256 < (257 : Len).toNat ∧ 1 ≤ (1 : Len).toNat ∧ (256 : Len).toNat ≤ 256 ∧
    (wireFrame [(entropy 0x10).draw &&& 0x7F]
      (scrambled tk ((entropy 0x10).a.toList.take 256) 0x10)).length ≤ 518 ∧
    518 < (wireFrame [(entropy 0xFE).draw &&& 0x7F]
      (scrambled tk (scrambled tk (List.replicate 256 0x7E) 0x7E) 0x7E)).length := by
  decide +kernel
theorem witness_TxnAckReleasesAFinishedTransaction :
    (pending .done q true).txcState = .done ∧ s0.txcState ≠ .done := by decide
/-- Not waiting; the last attempt there is (two of three used), and none left; one that overflows. -/
theorem witness_TimeoutRetransmitsOrEnds :
    s0.txcState = .idle ∧ (pending .waitReply q true).txcState = .waitReply ∧
    { s0 with attempt := 2 }.attempt.toNat < s0.params.maxRetries.toNat ∧
    s0.params.maxRetries.toNat ≤ { s0 with attempt := 3 }.attempt.toNat ∧
    (wireFrame [0x10] (scrambled tk q 0x10)).length ≤ 518 ∧
    518 < (wireFrame [0x7E]
      (scrambled tk (scrambled tk (List.replicate 256 0x7E) 0x7E) 0x7E)).length := by
  decide +kernel
/-- One state and packet for each case of Dispatch. -/
theorem witness_DispatchMatchesLoopbackThenReply :
    (pending .waitLoopback q true).pendBuf[0] = 0x6A ∧
    (pending .waitLoopback q true).pendLen.toNat = q.length ∧
    (pending .waitLoopback q true).pendBuf.toList.take 5 = q ∧
    (pending .waitLoopback q false).replyReq = false ∧
    (pending .waitLoopback q true).replySeen = false ∧
    ¬ [(0x6A : Byte), 0x03].length = q.length ∧
    (pending .waitReply [0xFF, 0x01] true).pendBuf[0] + 1 = 0x00 ∧
    (pending .waitReply q true).txcState = .waitReply := by decide +kernel
/-- One state and packet for each way to be unsolicited. -/
theorem witness_UnsolicitedPacketsGoToThePktPort :
    s0.txcState = .idle ∧ (pending .done q true).txcState = .done ∧
    ((0x11 : Byte) ≠ (pending .waitLoopback q true).pendBuf[0] ∧
      (0x11 : Byte) ≠ (pending .waitLoopback q true).pendBuf[0] + 1) ∧
    ((0x6B : Byte) = (pending .waitLoopback q false).pendBuf[0] + 1 ∧
      (pending .waitLoopback q false).replyReq = false) ∧
    ((pending .waitReply q true).txcState = .waitReply ∧
      (0x6A : Byte) = (pending .waitReply q true).pendBuf[0]) := by decide +kernel
theorem witness_LoopbackThenReplyExample :
    (pending .waitLoopback q true).txcState = .waitLoopback ∧
    (pending .waitLoopback q true).replyReq = true ∧
    (pending .waitLoopback q true).replySeen = false ∧
    (pending .waitLoopback q true).pendLen = 5 ∧
    (pending .waitLoopback q true).pendBuf.toList.take 5 = [0x6A, 0x03, 0x27, 0x01, 0x01] := by
  decide +kernel
theorem witness_PacketOpcodeRows :
    (Instr.pkt76 [1]).packet? = some (0x76, [1]) ∧ s0.txcState = .idle ∧
    (0x14 : Byte) ∉ listedOpcodes ∧ (0x86 : Byte) ∉ listedOpcodes := by decide
theorem witness_RetryBudgetEndsTheTransaction :
    (pending .waitReply q true).txcState = .waitReply ∧
    (pending .waitReply q true).params.maxRetries.toNat ≤
      (pending .waitReply q true).attempt.toNat + 3 := by decide

/-! ### Witnesses: reassembler -/

theorem witness_RxByteOutsideAFrame :
    s0.rsmState = .waitFlag1 ∧ s0.startFrame.rsmState = .waitFlag2 ∧ s0.startFrame.rsmLen = 1 ∧
    (0x00 : Byte) ≠ 0xFF ∧ (0x00 : Byte) ≠ 0x7E := by decide
/-- Room for one more byte, the byte that overflows, and the last length that is too short. -/
theorem witness_RxByteInsideAFrame :
    (accumulated ([0x7E, 0xFF] ++ List.replicate 252 0)).rsmLen.toNat = 254 ∧
    (accumulated ([0x7E, 0xFF] ++ List.replicate 253 0)).rsmLen.toNat = 255 ∧
    (accumulated [0x7E, 0xFF, 0x11]).rsmLen.toNat < 4 ∧
    (accumulated [0x7E, 0xFF, 0x11]).rsmState = .waitTerminator := by decide +kernel
/-- V-RA16, V-RA17, V-RA14, V-RA13 up to their terminators: each clause, from the shortest frame. -/
theorem witness_RxByteEndsAFrame :
    (accumulated [0x7E, 0xFF, 0x00, 0x00]).rsmLen.toNat = 4 ∧
    dec ((accumulated [0x7E, 0xFF, 0x00, 0x00]).rsmBuf.toList.take 4 ++ [0x7E])
      = .ok [0x00] ∧
    scrambled tk [] 0x00 = [] ∧
    dec ((accumulated [0x7E, 0xFF, 0x05, 0x14, 0x02, 0x07, 0x22]).rsmBuf.toList.take 7 ++ [0x7E])
      = .ok [0x05, 0x14, 0x02, 0x07] ∧
    scrambled tk [0x14, 0x02, 0x07] 0x05 = [0x11, 0x04, 0x00] ∧
    dec ((accumulated [0x7E, 0xFF, 0x7D, 0x5E]).rsmBuf.toList.take 4 ++ [0x7E])
      = .error .checksumMismatch ∧
    dec ((accumulated [0x7E, 0xFF, 0x10, 0x7D, 0x41]).rsmBuf.toList.take 5 ++ [0x7E])
      = .error .invalidEscape ∧
    (accumulated ([0x7E, 0xFF] ++ List.replicate 253 0)).rsmLen.toNat = 255 := by decide +kernel
theorem witness_ReassembledFrameOutcomes :
    2 ≤ [(0x00 : Byte), 0x00].length ∧ (0x7E : Byte) ∉ [0x00, 0x00] := by decide
theorem witness_NoFlagIsLost :
    RsmInv s0 ∧ RsmInv s0.startFrame ∧ RsmInv (accumulated [0x7E, 0xFF, 0x11, 0x11]) := by
  refine ⟨by decide +kernel, by decide +kernel, by decide +kernel⟩
theorem witness_OverflowReturnsToWaitFlag1 :
    s0.rsmState = .waitFlag1 ∧ (List.replicate 254 (0 : Byte)).length = 254 ∧
    (0x7E : Byte) ∉ List.replicate 254 (0 : Byte) ∧ (0x7E : Byte) ∉ [(0 : Byte), 0, 0] := by
  decide +kernel
/-- V-RA21 is the longest frame there can be. -/
theorem witness_StreamOfTwoFramesDeliversTwoPackets :
    s0.rsmState = .waitFlag1 ∧ (0x7E : Byte) ∉ [(0x00 : Byte), 0x55, 0xFF] ∧
    enc [0x05] (scrambled tk [0x11, 0x04, 0x00] 0x05)
      = .ok [0x7E, 0x7E, 0xFF, 0x05, 0x14, 0x02, 0x07, 0x22, 0x7E] ∧
    (frame [0x00] (scrambled tk (List.replicate 251 0) 0x00)).length = 257 ∧
    enc [0x00] (scrambled tk (List.replicate 251 0) 0x00)
      = .ok (frame [0x00] (scrambled tk (List.replicate 251 0) 0x00)) := by decide +kernel

/-! ### Witnesses: host access -/

/-- The first and the last address of each window, and the addresses outside. -/
theorem witness_ByteReadsReturnTheWindows :
    (0x1000 : Addr).toNat = 0x1000 + 0 ∧ (0x13FF : Addr).toNat = 0x1000 + 1023 ∧
    (0x1400 : Addr).toNat = 0x1400 + 0 ∧ (0x17FF : Addr).toNat = 0x1400 + 1023 ∧
    (0x1800 : Addr).toNat = 0x1800 + 0 ∧ (0x18FF : Addr).toNat = 0x1800 + 255 ∧
    (0x1900 : Addr).toNat = 0x1900 + 0 ∧ (0x19FF : Addr).toNat = 0x1900 + 255 ∧
    (0x1A00 : Addr).toNat = 0x1A00 + 0 ∧ (0x1AFF : Addr).toNat = 0x1A00 + 255 ∧
    (0x1B00 : Addr).toNat = 0x1B00 + 0 ∧ (0x1B3F : Addr).toNat = 0x1B00 + 63 ∧
    (0x0FFF : Addr).toNat < 0x1000 ∧ 0x1B40 ≤ (0x1B40 : Addr).toNat := by decide
theorem witness_CmdWriteRunsTheCommand :
    (0x0A : Byte) = 0x07 ∨ 0x0A ≤ (0x0A : Byte).toNat := by decide
theorem witness_OtherHostWrites :
    (0x0010 : Addr).toNat = 0x010 ∧ (0x0004 : Addr).toNat ≠ 0x000 ∧
    (0x0004 : Addr).toNat ≠ 0x010 ∧ (0x13FF : Addr).toNat = 0x1000 + 1023 ∧
    (0x0FFF : Addr).toNat < 0x1000 ∧ 0x1400 ≤ (0x1400 : Addr).toNat := by decide

/-! ### Witnesses: what holds of every step -/

/-- One received byte more, from a state with every invariant. -/
theorem witness_invariants_and_a_step :
    Inv { accumulated [0x7E, 0xFF, 0x11, 0x11] with inputs := [⟨.rx, [0x7E]⟩] } ∧
    ends (step { accumulated [0x7E, 0xFF, 0x11, 0x11] with inputs := [⟨.rx, [0x7E]⟩] })
      (fun t => t.rxOkCnt = 1) = true := by decide +kernel
/-- V-TX12: a retransmission, from a waiting state with every invariant. -/
theorem witness_CorrelatorInvariantIsKept :
    Inv { entropy 0x21 (pending .waitLoopback q true) with inputs := [⟨.timeout, []⟩] } ∧
    ends (step { entropy 0x21 (pending .waitLoopback q true) with inputs := [⟨.timeout, []⟩] })
      (fun t => t.attempt = 1 ∧ t.txcState = .waitLoopback) = true := by decide +kernel
/-- A transaction that ends, with no outcome before it. -/
theorem witness_ResultIsNoneUntilAnOutcome :
    TxcInv (pending .waitReply q true) ∧ (pending .waitReply q true).txcState ≠ .done ∧
    (pending .waitReply q true).result = 0x00 ∧
    ends (exec (.dispatch 0x6B []) (pending .waitReply q true)) (fun t => t.result = 0x30) = true := by
  decide +kernel
theorem witness_ResetMeetsTheInvariants :
    LengthsInv s0 ∧ ends (exec .reset s0) (fun _ => true) = true := by decide +kernel
theorem witness_NoStepStopsTheMachine : RsmInv s0 ∧ RsmInv (accumulated [0x7E, 0xFF]) := by
  decide +kernel
theorem witness_StateIsWrittenByItsOwnersOnly :
    ends (exec (.memWrite 0x1000 .byte 5) s0) (fun t => t.a[0] = 5) = true ∧
    (∀ b, Instr.memWrite 0x1000 .byte 5 ≠ .rxByte b) ∧
    Instr.memWrite 0x1000 .byte 5 ≠ .reset ∧ Instr.memWrite 0x1000 .byte 5 ≠ .timeout ∧
    (Instr.memWrite 0x1000 .byte 5).runsOp 0x08 = false ∧
    (Instr.memWrite 0x1000 .byte 5).runsOp 0x09 = false ∧
    (Instr.memWrite 0x1000 .byte 5).receives = false := by
  refine ⟨by decide +kernel, by simp, by decide, by decide, by decide, by decide, by decide⟩
theorem witness_ReceiveSideLeavesCommandStateAlone :
    (Instr.rxByte 0x7E).receives = true ∧ (Instr.txnSend 1 5).runsOp 0x08 = true ∧
    (Instr.memWrite 0 .word 0x08010005).runsOp 0x08 = true ∧
    (Instr.encode 0 5).issuedWord?.isSome = true ∧
    ends (exec (.txnSend 1 5) s0) (fun _ => true) = true := by decide +kernel
theorem witness_TransmittingIsWaiting :
    ends (exec (.txnSend 1 5) (entropy 0x90 (withA q))) (fun t => t.txOut ≠ []) = true := by
  decide +kernel
/-- The line rises on an outcome and on the enable, and falls on the acknowledge. -/
theorem witness_IrqRisesOnlyOnAnOutcome :
    { pending .waitReply q true with irqEn := true }.irq = false ∧
    ends (exec (.dispatch 0x6B []) { pending .waitReply q true with irqEn := true })
      (fun t => t.irq) = true ∧
    ends (exec (.memWrite 0x0010 .word 1) (pending .done q true)) (fun t => t.irq) = true ∧
    { pending .done q true with irqEn := true }.irq = true ∧
    ends (exec (.txnAck 0 0) { pending .done q true with irqEn := true })
      (fun t => !t.irq) = true := by decide +kernel

end Sys2Proof.Tests
end

section
/-! PROOF. What a step answers, given the next pending event and what it decodes to
(00_scope.md R10, 20_memory.md R74): one equation per branch of `step`. -/

namespace Sys2Proof

/-- A table word is read as the event it stands for (log 10). -/
theorem decodeTableWord_eq_some_iff {nbits w : Nat} {i : Instr} :
    decodeTableWord nbits w = some i ↔ decode (tableEvent nbits w) = .ok i := by
  cases h : decode (tableEvent nbits w) <;> simp [decodeTableWord, h]

end Sys2Proof

namespace Sys2Proof.Machine

/-- With no event pending the state stays (log 3). -/
theorem step_of_inputs_nil {s : State} (hs : s.inputs = []) : step s = .next s := by
  simp [step, hs]

/-- An event that decodes is taken off the pending events, and its operation is run. -/
theorem step_of_decode_ok {s : State} {e : Event} {rest : List Event} {i : Instr}
    (hs : s.inputs = e :: rest) (hd : decode e = .ok i) :
    step s = exec i { s with inputs := rest } := by
  simp [step, hs, hd]

/-- An event that does not decode is refused, with the decoder's reason (log 4). -/
theorem step_of_decode_error {s : State} {e : Event} {rest : List Event} {r : DecodeError}
    (hs : s.inputs = e :: rest) (hd : decode e = .error r) :
    step s = .refused (.notAnEvent r) := by
  simp [step, hs, hd]

@[simp] theorem State.withFetchWord_inputs (s : State) (nbits w : Nat) :
    (s.withFetchWord nbits w).inputs = tableEvent nbits w :: s.inputs := rfl

/-- Taking the placed event off again gives the state it was placed in. -/
@[simp] theorem State.withFetchWord_restoreInputs (s : State) (nbits w : Nat) :
    { s.withFetchWord nbits w with inputs := s.inputs } = s := rfl

/-- A step after `withFetchWord` runs the word's instruction on the state it was placed in. -/
theorem step_withFetchWord {nbits w : Nat} {i : Instr} (s : State)
    (h : decodeTableWord nbits w = some i) : step (s.withFetchWord nbits w) = exec i s := by
  rw [step_of_decode_ok (s.withFetchWord_inputs nbits w) (decodeTableWord_eq_some_iff.mp h),
    s.withFetchWord_restoreInputs]

/-- Settles O6: each clause is the equation of one branch of `step`. -/
theorem stepRunsTheNextEvent : Obligations.StepRunsTheNextEvent :=
  ⟨fun _ _ _ _ => step_of_decode_ok, fun _ _ _ _ => step_of_decode_error,
    fun _ => step_of_inputs_nil, fun s _ _ _ => step_withFetchWord s⟩

end Sys2Proof.Machine
end

section
/-! SUPPORT. What one operation can do to the state, said once: the inversion of each command, of a
timeout, of a received byte and of `exec`. The proofs about every step (10_state.md R48, R52, R53) go
through these cases and unfold no operation. -/

namespace Sys2Proof.Machine

/-! ### The two sides of the state -/

/-- `s` with the host side of `x`: what the commands other than TXN_SEND and TXN_ACK, the host writes
and a draw work on. -/
def State.withHost (s x : State) : State :=
  { s with
    cmd := x.cmd, status := x.status, outLen := x.outLen, seed := x.seed, irqEn := x.irqEn
    a := x.a, b := x.b, entropyIn := x.entropyIn, drawCount := x.drawCount }

/-- `s` with the reassembler of `x` and its log (20_memory.md R79). -/
def State.withRx (s x : State) : State :=
  { s with
    rsmState := x.rsmState, rsmLen := x.rsmLen, rsmBuf := x.rsmBuf
    rxLast := x.rxLast, rxOkCnt := x.rxOkCnt, rxStructCnt := x.rxStructCnt
    rxCksumCnt := x.rxCksumCnt, rxOvfCnt := x.rxOvfCnt }

/-- A draw touches only the random source. -/
theorem afterDraw_eq_with (s : State) :
    ∃ e n, s.afterDraw = { s with entropyIn := e, drawCount := n } := by
  unfold State.afterDraw
  split
  · exact ⟨_, s.drawCount, rfl⟩
  · exact ⟨s.entropyIn, _, rfl⟩

/-- An attempt draws TXC_SEED, and either emits a frame and waits for its loopback, or ends the
transaction with a codec error (43_correlator.md R221); it touches nothing else. -/
theorem txAttempt_eq_with (s : State) :
    ∃ e n sd,
      (∃ f, s.txAttempt = { s with
        entropyIn := e, drawCount := n, txcSeed := sd
        txOut := s.txOut ++ f, txcState := .waitLoopback }) ∨
      (∃ c : CodecError, s.txAttempt = { s with
        entropyIn := e, drawCount := n, txcSeed := sd, txcState := .done, result := c.code }) := by
  obtain ⟨e, n, hd⟩ := afterDraw_eq_with s
  refine ⟨e, n, s.drawnSeed.setWidth 7, ?_⟩
  obtain ⟨f, -, h⟩ | ⟨c, -, h⟩ := txAttempt_cases s
  · exact .inl ⟨f, by rw [h, State.seeded, hd]; rfl⟩
  · exact .inr ⟨c, by rw [h, State.seeded, hd]; rfl⟩

/-! ### Commands -/

theorem CodecError.code_mem_statusCodes (e : CodecError) : e.code ∈ statusCodes := by
  cases e <;> decide

theorem CodecError.code_ne_none (e : CodecError) : e.code ≠ NONE := by
  cases e <;> decide

/-- What a write of the command word `w` can leave of `s`. -/
inductive CommandEffect (w : Word) (s : State) : State → Prop
  /-- A code to STATUS and nothing else: NOP, and every command that fails (44_control.md R254). -/
  | report (c : BitVec 8) (hc : c ∈ statusCodes) : CommandEffect w s ((s.issue w).setStatus c)
  /-- Bytes to B and OUT_LEN. -/
  | output (xs : List Byte) (hx : xs.length ≤ 1024) :
      CommandEffect w s (((s.issue w).putOut xs).setStatus OK)
  /-- Bytes to B and OUT_LEN under a seed drawn into SEED (40_scrambler.md R122). -/
  | scramble (xs : List Byte) (hx : xs.length ≤ 1024) :
      CommandEffect w s (State.setStatus { (s.issue w).afterDraw.putOut xs with
        seed := (s.issue w).drawnSeed.setWidth 7 } OK)
  /-- B[0..k) to A (44_control.md R252). -/
  | copy (k : Nat) (hk : k ≤ 1024) :
      CommandEffect w s (State.setStatus { s.issue w with
        a := writeFront s.a (slice s.b k), outLen := BitVec.ofNat 11 k } OK)
  /-- A transaction begins (43_correlator.md R220). -/
  | send (arg : Byte) (len : Len) (hw : w = cmdWord 0x08 arg len) (hs : s.txcState = .idle)
      (hl : 1 ≤ len.toNat ∧ len.toNat ≤ 256) :
      CommandEffect w s (((s.issue w).beginTransaction arg len).txAttempt.setStatus OK)
  /-- The outcome is acknowledged (43_correlator.md R224). -/
  | ack (arg : Byte) (len : Len) (hw : w = cmdWord 0x09 arg len) (hs : s.txcState = .done) :
      CommandEffect w s (State.setStatus { s.issue w with txcState := .idle } OK)

section
variable {arg : Byte} {len : Len} {s t : State}

theorem execNop_effect (h : execNop arg len s = .next t) :
    CommandEffect (cmdWord 0x00 arg len) s t := by
  cases h; exact .report OK (by decide)

theorem execScramble_effect (h : execScramble arg len s = .next t) :
    CommandEffect (cmdWord 0x01 arg len) s t := by
  unfold execScramble at h
  split at h <;> cases h
  · exact .report ERR_LEN (by decide)
  · exact .scramble _ (by simp)

theorem execDescramble_effect (h : execDescramble arg len s = .next t) :
    CommandEffect (cmdWord 0x02 arg len) s t := by
  unfold execDescramble at h
  split at h <;> cases h
  · exact .report ERR_LEN (by decide)
  · exact .output _ (by simp)

/-- A codec command reports the error, or writes an output that fits B. -/
theorem reportCodec_effect {w : Word} {r : Except CodecError (List Byte)}
    (hr : ∀ out, r = .ok out → out.length ≤ 1024) :
    CommandEffect w s ((s.issue w).reportCodec r) := by
  obtain ⟨out, ho, h⟩ | ⟨e, -, h⟩ := reportCodec_cases (s.issue w) r <;> rw [h]
  · exact .output out (hr out ho)
  · exact .report e.code e.code_mem_statusCodes

/-- A frame with a header of at most one byte fits B (00_scope.md R13). -/
theorem length_enc_le {hdr p out : List Byte} (hh : hdr.length ≤ 1) (h : enc hdr p = .ok out) :
    out.length ≤ 1024 := by
  obtain ⟨he, -⟩ | ⟨he, -⟩ | ⟨he, -, hf⟩ := enc_cases hdr p <;> rw [he] at h <;> cases h
  simp only [encCap, Config.MAX_PAYLOAD] at hf
  omega

theorem execEncode_effect (h : execEncode arg len s = .next t) :
    CommandEffect (cmdWord 0x03 arg len) s t := by
  unfold execEncode at h
  split at h <;> cases h
  · exact .report ENC_TOO_LONG (by decide)
  · exact reportCodec_effect fun _ => length_enc_le (by simp)

theorem execEncodeH_effect (h : execEncodeH arg len s = .next t) :
    CommandEffect (cmdWord 0x04 arg len) s t := by
  unfold execEncodeH at h
  split at h <;> cases h
  · exact .report ENC_TOO_LONG (by decide)
  · exact reportCodec_effect fun _ => length_enc_le (by simp)

theorem execDecode_effect (h : execDecode arg len s = .next t) :
    CommandEffect (cmdWord 0x05 arg len) s t := by
  unfold execDecode at h
  split at h <;> cases h
  · exact .report ERR_LEN (by decide)
  · refine reportCodec_effect fun out ho => ?_
    have := length_dec ho
    simp only [length_slice, Config.BUF_BYTES] at this
    omega

theorem execCopyB2a_effect (h : execCopyB2a arg len s = .next t) :
    CommandEffect (cmdWord 0x06 arg len) s t := by
  unfold execCopyB2a at h
  split at h <;> cases h
  · exact .report ERR_LEN (by decide)
  · exact .copy len.toNat (by simp only [Config.BUF_BYTES] at *; omega)

theorem execTxnSend_effect (h : execTxnSend arg len s = .next t) :
    CommandEffect (cmdWord 0x08 arg len) s t := by
  by_cases hs : s.txcState = .idle
  · simp only [execTxnSend, issue_txcState, hs, ne_eq, not_true_eq_false, reduceIte] at h
    split at h <;> cases h
    · exact .report ERR_LEN (by decide)
    · refine .send arg len rfl hs ?_
      simp only [Config.PEND_CAP] at *
      omega
  · simp only [execTxnSend, issue_txcState, hs, ne_eq, not_false_eq_true, reduceIte] at h
    cases h
    exact .report ERR_BUSY (by decide)

theorem execTxnAck_effect (h : execTxnAck arg len s = .next t) :
    CommandEffect (cmdWord 0x09 arg len) s t := by
  by_cases hs : s.txcState = .done
  · simp only [execTxnAck, issue_txcState, hs, ne_eq, not_true_eq_false, reduceIte] at h
    cases h
    exact .ack arg len rfl hs
  · simp only [execTxnAck, issue_txcState, hs, ne_eq, not_false_eq_true, reduceIte] at h
    cases h
    exact .report ERR_STATE (by decide)

theorem badCommand_effect (w : Word) : CommandEffect w s (s.badCommand w) :=
  .report ERR_BADCMD (by decide)

theorem cmdWord_of_cmdOp {w : Word} {op : Byte} (h : cmdOp w = op) :
    cmdWord op (cmdArg w) (cmdLen w) = w := h ▸ cmdWord_fields w

/-- 44_control.md R253: a word write of CMD does what the word's command does. -/
theorem runCommand_effect {w : Word} (h : runCommand w s = .next t) : CommandEffect w s t := by
  unfold runCommand at h
  split at h
  next hop => simpa only [cmdWord_of_cmdOp hop] using execNop_effect h
  split at h
  next hop => simpa only [cmdWord_of_cmdOp hop] using execScramble_effect h
  split at h
  next hop => simpa only [cmdWord_of_cmdOp hop] using execDescramble_effect h
  split at h
  next hop => simpa only [cmdWord_of_cmdOp hop] using execEncode_effect h
  split at h
  next hop => simpa only [cmdWord_of_cmdOp hop] using execEncodeH_effect h
  split at h
  next hop => simpa only [cmdWord_of_cmdOp hop] using execDecode_effect h
  split at h
  next hop => simpa only [cmdWord_of_cmdOp hop] using execCopyB2a_effect h
  split at h
  next hop => simpa only [cmdWord_of_cmdOp hop] using execTxnSend_effect h
  split at h
  next hop => simpa only [cmdWord_of_cmdOp hop] using execTxnAck_effect h
  next => cases h; exact badCommand_effect w

end

/-! ### Every operation -/

/-- What the operation `i` can leave of `s`: a command and a host write change the host side, a
transaction begins or is acknowledged, a packet is dispatched, a byte is received, the timer ends, the
FCC is reset, a read result goes to the host. -/
inductive Effect (i : Instr) (s : State) : State → Prop
  | host (x : State) (hi : i ≠ .reset) (ho : x.outLen = s.outLen ∨ x.outLen.toNat ≤ 1024) :
      Effect i s (s.withHost x)
  | send (w : Word) (arg : Byte) (len : Len) (hi : i.runsOp 0x08 = true) (hs : s.txcState = .idle)
      (hl : 1 ≤ len.toNat ∧ len.toNat ≤ 256) :
      Effect i s (((s.issue w).beginTransaction arg len).txAttempt.setStatus OK)
  | ack (w : Word) (hi : i.runsOp 0x09 = true) (hs : s.txcState = .done) :
      Effect i s (State.setStatus { s.issue w with txcState := .idle } OK)
  | packet (op : Byte) (args : List Byte) (hi : i.packet? = some (op, args)) :
      Effect i s (s.dispatchPacket op args)
  | receive (b : Byte) (t : State) (hi : i = .rxByte b) (h : execRxByte b s = .next t) : Effect i s t
  | timeout (t : State) (hi : i = .timeout) (h : execTimeout s = .next t) : Effect i s t
  | reset (hi : i = .reset) : Effect i s s.afterReset
  | read (v : Word) (hi : i ≠ .reset) : Effect i s { s with hostReads := s.hostReads ++ [v] }

theorem toNat_ofNat_eleven_le {k : Nat} (h : k ≤ 1024) : (BitVec.ofNat 11 k).toNat ≤ 1024 := by
  rw [BitVec.toNat_ofNat]
  exact (Nat.mod_le _ _).trans h

/-- A command other than an accepted TXN_SEND or TXN_ACK stays on the host side. -/
theorem CommandEffect.toEffect {i : Instr} {w : Word} {s t : State} (h : CommandEffect w s t)
    (hi : i.issuedWord? = some w) : Effect i s t := by
  have hr : i ≠ .reset := by rintro rfl; cases hi
  cases h with
  | report c _ => exact .host ((s.issue w).setStatus c) hr (.inl rfl)
  | output xs hx =>
    exact .host (s := s) (((s.issue w).putOut xs).setStatus OK) hr (.inr (toNat_ofNat_eleven_le hx))
  | scramble xs hx =>
    obtain ⟨e, n, hd⟩ := afterDraw_eq_with (s.issue w)
    rw [hd]
    exact .host (s := s) (State.setStatus { State.putOut
      { s.issue w with entropyIn := e, drawCount := n } xs with
        seed := (s.issue w).drawnSeed.setWidth 7 } OK) hr (.inr (toNat_ofNat_eleven_le hx))
  | copy k hk =>
    exact .host (s := s) (State.setStatus { s.issue w with
      a := writeFront s.a (slice s.b k), outLen := BitVec.ofNat 11 k } OK) hr
      (.inr (toNat_ofNat_eleven_le hk))
  | send arg len hw hs hl =>
    exact .send w arg len (by simp [Instr.runsOp, hi, hw]) hs hl
  | ack arg len hw hs =>
    exact .ack w (by simp [Instr.runsOp, hi, hw]) hs

/-- A host write is a command, or changes the host side, or nothing (20_memory.md R66 to R71). -/
theorem execMemWrite_effect {addr : Addr} {n : Width} {v : Word} {s t : State}
    (h : execMemWrite addr n v s = .next t) : Effect (.memWrite addr n v) s t := by
  have hr : Instr.memWrite addr n v ≠ .reset := by simp
  cases n with
  | byte =>
    cases h
    unfold State.writeByte
    split
    · exact .host { s with a := s.a.setIfInBounds (addr.toNat - 0x1000) (v.setWidth 8) } hr (.inl rfl)
    · exact .host s hr (.inl rfl)
  | word =>
    simp only [execMemWrite] at h
    split at h
    · rename_i ha
      have : addr = 0 := BitVec.eq_of_toNat_eq ha
      exact (runCommand_effect h).toEffect (by simp [Instr.issuedWord?, this])
    · split at h <;> cases h
      · exact .host { s with irqEn := v.getLsbD 0 } hr (.inl rfl)
      · exact .host s hr (.inl rfl)

/-- Every way an operation can end normally. -/
theorem exec_effect {i : Instr} {s t : State} (h : exec i s = .next t) : Effect i s t := by
  cases hp : i.packet? with
  | some p =>
    rw [exec_of_packet s hp] at h
    cases h
    exact .packet p.1 p.2 hp
  | none =>
    cases i with
    | nop => exact (execNop_effect h).toEffect rfl
    | scramble => exact (execScramble_effect h).toEffect rfl
    | descramble => exact (execDescramble_effect h).toEffect rfl
    | encode => exact (execEncode_effect h).toEffect rfl
    | encodeH => exact (execEncodeH_effect h).toEffect rfl
    | decode => exact (execDecode_effect h).toEffect rfl
    | copyB2a => exact (execCopyB2a_effect h).toEffect rfl
    | txnSend => exact (execTxnSend_effect h).toEffect rfl
    | txnAck => exact (execTxnAck_effect h).toEffect rfl
    | reserved07 | reserved0A | reserved0C | reserved10 | reserved20 | reserved40 | reserved80 =>
      cases h; exact (badCommand_effect _).toEffect rfl
    | rxByte b => exact .receive b t rfl h
    | timeout => exact .timeout t rfl h
    | reset => cases h; exact .reset rfl
    | memRead addr n => cases h; exact .read (s.hostRead addr n) (by simp)
    | memWrite addr n v => exact execMemWrite_effect h
    | _ => cases hp

/-! ### The receive side and the timer -/

/-- The state in which a retransmission begins (43_correlator.md R226). -/
def State.retried (s : State) : State :=
  { s with attempt := s.attempt + 1, replySeen := false, replyLen := 0 }

/-- 43_correlator.md R226: nothing outside a wait; in one, another attempt or the end. -/
theorem execTimeout_next {s t : State} (h : execTimeout s = .next t) :
    (s.waiting = false ∧ t = s) ∨
    (s.waiting = true ∧ s.attempt.toNat < s.params.maxRetries.toNat ∧ t = s.retried.txAttempt) ∨
    (s.waiting = true ∧ s.params.maxRetries.toNat ≤ s.attempt.toNat ∧
      t = s.finish TXN_TIMEOUT) := by
  unfold execTimeout at h
  cases hw : s.waiting with
  | false =>
    rw [if_pos hw] at h
    cases h
    exact .inl ⟨rfl, rfl⟩
  | true =>
    rw [if_neg (by simp [hw])] at h
    split at h <;> cases h
    · exact .inr (.inl ⟨rfl, ‹_›, rfl⟩)
    · exact .inr (.inr ⟨rfl, by omega, rfl⟩)

theorem idleFrame_eq_withRx (s : State) : s.idleFrame = s.withRx s.idleFrame := rfl

theorem length_accumulated_le (s : State) : s.accumulated.length ≤ 256 := by
  simp [State.accumulated]

/-- Beside the reassembler and its log, a received byte changes nothing, or what the dispatch of a
packet of 1 to 251 bytes changes (42_reassembler.md R188, R192). -/
theorem execRxByte_eq_withRx {b : Byte} {s t : State} (h : execRxByte b s = .next t) :
    (∃ x, t = s.withRx x) ∨
    ∃ x y op args, args.length + 1 ≤ 251 ∧
      t = ((s.withRx x).dispatchPacket op args).withRx y := by
  obtain rfl | rfl | rfl | ⟨hl, -, -, rfl⟩ | ⟨hl, -, -, rfl⟩ | ⟨hl, -, -, -, hc⟩ :=
    execRxByte_next h
  · exact .inl ⟨t, rfl⟩
  · exact .inl ⟨s.startFrame, rfl⟩
  · exact .inl ⟨s.idleFrame, rfl⟩
  · exact .inl ⟨{ s.appended FLAG2 hl with rsmState := .waitTerminator }, rfl⟩
  · obtain ⟨-, ho⟩ | ⟨-, ho⟩ := checkOverflow_cases (s.appended b hl) <;> rw [ho]
    · exact .inl ⟨(s.appended b hl).logOverflow.idleFrame, rfl⟩
    · exact .inl ⟨s.appended b hl, rfl⟩
  · obtain ⟨sd, d, hd, hn⟩ | ⟨-, hn⟩ | ⟨e, -, hn⟩ := completeFrame_cases (s.appended FLAG1 hl) <;>
      rw [hn] at hc <;> cases hc
    · obtain ⟨-, ha⟩ | ⟨op, args, hs, ha⟩ := acceptFrame_cases (s.appended FLAG1 hl) sd d <;> rw [ha]
      · exact .inl ⟨State.idleFrame { s.appended FLAG1 hl with
          rxOkCnt := s.rxOkCnt + 1, rxLast := RX_EMPTY }, rfl⟩
      · refine .inr ⟨{ s.appended FLAG1 hl with rxOkCnt := s.rxOkCnt + 1, rxLast := RX_OK }, _,
          op, args, ?_, idleFrame_eq_withRx _⟩
        have hdec := length_dec hd
        have hacc := length_accumulated_le (s.appended FLAG1 hl)
        have hscr := congrArg List.length hs
        simp only [length_scr, List.length_cons] at hdec hscr
        omega
    · refine .inl ⟨((s.appended FLAG1 hl).logBadFrame e).startFrame, ?_⟩
      unfold State.logBadFrame
      split <;> rfl

end Sys2Proof.Machine
end

section
/-! PROOF. What holds of every step (10_state.md R24, R48, R52, R53): each invariant by the cases of
`Effect`. No operation but RX_BYTE and RESET writes the reassembler, and no invariant of the correlator
or of the streams reads it. -/

namespace Sys2Proof.Machine

/-- A property that `exec` keeps, and that does not read the pending events, is kept by every step;
an operation that comes to run is one the decoder reads from an event. -/
theorem step_induct {P : State → Prop} (hin : ∀ s is, P s → P { s with inputs := is })
    (hex : ∀ e i s t, decode e = .ok i → P s → exec i s = .next t → P t) {s t : State}
    (hs : P s) (h : step s = .next t) : P t := by
  obtain ⟨-, rfl⟩ | ⟨e, rest, i, -, hd, hx⟩ := step_next h
  · exact hs
  · exact hex e i _ t hd (hin s rest hs) hx

/-! ### The reassembler (R52) -/

/-- 20_memory.md R79: only RX_BYTE and RESET write the reassembler and its log. -/
theorem exec_keeps_rx {i : Instr} {s t : State} (h : exec i s = .next t) (hr : i ≠ .reset)
    (hb : ∀ b, i ≠ .rxByte b) : t = t.withRx s := by
  cases exec_effect h with
  | host | ack | read => rfl
  | send w arg len =>
    obtain ⟨e, n, sd, ⟨f, h⟩ | ⟨c, h⟩⟩ := txAttempt_eq_with ((s.issue w).beginTransaction arg len) <;>
      rw [h] <;> rfl
  | packet op args =>
    obtain ⟨-, -, -, -, h⟩ | ⟨-, -, -, h⟩ | ⟨-, -, -, -, h⟩ | ⟨-, -, h⟩ :=
      dispatchPacket_cases s op args <;> rw [h]
    · obtain ⟨-, h⟩ | ⟨-, -, h⟩ := loopbackOk_cases s <;> rw [h] <;> rfl
    · rfl
    · obtain ⟨-, h⟩ | ⟨-, h⟩ := captureReply_cases s (op :: args) <;> rw [h] <;> rfl
    · rfl
  | receive b _ hi => exact absurd hi (hb b)
  | timeout _ _ h =>
    obtain ⟨-, rfl⟩ | ⟨-, -, rfl⟩ | ⟨-, -, rfl⟩ := execTimeout_next h
    · rfl
    · obtain ⟨e, n, sd, ⟨f, h⟩ | ⟨c, h⟩⟩ := txAttempt_eq_with s.retried <;> rw [h] <;> rfl
    · rfl
  | reset hi => exact absurd hi hr

theorem rsmInv_of_waitFlag1 {s : State} (hw : s.rsmState = .waitFlag1) (hl : s.rsmLen = 0) :
    RsmInv s := by
  simp [RsmInv, hw, hl]

theorem rsmInv_idleFrame (s : State) : RsmInv s.idleFrame := rsmInv_of_waitFlag1 rfl rfl

theorem rsmInv_startFrame (s : State) : RsmInv s.startFrame := by simp [RsmInv, FLAG1]

/-- FLAG2 after FLAG1 completes the marker (42_reassembler.md R185). -/
theorem rsmInv_marker {s : State} (hs : RsmInv s) (hw : s.rsmState = .waitFlag2)
    (hl : s.rsmLen.toNat < Config.ACC_CAP) :
    RsmInv { s.appended FLAG2 hl with rsmState := .waitTerminator } := by
  obtain ⟨-, hf, -⟩ := hs
  obtain ⟨h1, h0⟩ := hf hw
  have hlen : (s.appended FLAG2 hl).rsmLen.toNat = 2 := by rw [appended_rsmLen, h1]; rfl
  refine ⟨nofun, nofun, fun _ => ?_⟩
  simp only [hlen]
  refine ⟨le_rfl, by decide, ?_, ?_, ?_⟩
  · simp [State.appended, h1, h0]
  · simp [State.appended, h1, FLAG2]
  · simp

/-- A byte that is no FLAG1 and does not fill the buffer lengthens the frame (42_reassembler.md R186). -/
theorem rsmInv_appended {s : State} {b : Byte} (hs : RsmInv s) (hw : s.rsmState = .waitTerminator)
    (hb : b ≠ FLAG1) (hl : s.rsmLen.toNat < Config.ACC_CAP)
    (hfull : (s.appended b hl).rsmLen.toNat ≠ Config.ACC_CAP) : RsmInv (s.appended b hl) := by
  obtain ⟨-, -, ht⟩ := hs
  obtain ⟨h2, -, h0, h1, hd⟩ := ht hw
  have hst : (s.appended b hl).rsmState = .waitTerminator := hw
  have hlen := appended_rsmLen s b hl
  refine ⟨by simp [hst], by simp [hst], fun _ => ⟨by omega, ?_, ?_, ?_, fun x hx => ?_⟩⟩
  · simp only [Config.ACC_CAP] at hfull hl
    omega
  · rw [← h0]
    exact Vector.getElem_set_ne hl _ (by omega)
  · rw [← h1]
    exact Vector.getElem_set_ne hl _ (by omega)
  · have hacc : ((s.appended b hl).accumulated).drop 2 = s.accumulated.drop 2 ++ [b] := by
      rw [appended_accumulated, List.drop_append_of_le_length]
      simp only [State.accumulated, length_slice, Config.ACC_CAP] at hl ⊢
      omega
    change x ∈ ((s.appended b hl).accumulated).drop 2 at hx
    rw [hacc, List.mem_append, List.mem_singleton] at hx
    obtain hx | rfl := hx
    · exact hd x hx
    · exact hb

/-- The reassembler starts again, or goes on in its invariant (42_reassembler.md R184 to R190). -/
theorem rsmInv_execRxByte {b : Byte} {s t : State} (hs : RsmInv s)
    (h : execRxByte b s = .next t) : RsmInv t := by
  obtain rfl | rfl | rfl | ⟨hl, hw, -, rfl⟩ | ⟨hl, hw, hb, rfl⟩ | ⟨hl, -, -, -, hc⟩ :=
    execRxByte_next h
  · exact hs
  · exact rsmInv_startFrame s
  · exact rsmInv_idleFrame s
  · exact rsmInv_marker hs hw hl
  · obtain ⟨-, ho⟩ | ⟨hfull, ho⟩ := checkOverflow_cases (s.appended b hl) <;> rw [ho]
    · exact rsmInv_idleFrame _
    · exact rsmInv_appended hs hw hb hl hfull
  · obtain ⟨sd, d, -, hn⟩ | ⟨-, hn⟩ | ⟨e, -, hn⟩ := completeFrame_cases (s.appended FLAG1 hl) <;>
      rw [hn] at hc <;> cases hc
    · obtain ⟨-, ha⟩ | ⟨op, args, -, ha⟩ := acceptFrame_cases (s.appended FLAG1 hl) sd d <;>
        rw [ha] <;> exact rsmInv_idleFrame _
    · exact rsmInv_startFrame _

theorem rsmInv_exec {i : Instr} {s t : State} (hs : RsmInv s) (h : exec i s = .next t) :
    RsmInv t := by
  by_cases hr : i = .reset
  · subst hr; cases h; exact rsmInv_of_waitFlag1 rfl rfl
  by_cases hb : ∃ b, i = .rxByte b
  · obtain ⟨b, rfl⟩ := hb
    exact rsmInv_execRxByte hs h
  · rw [exec_keeps_rx h hr (not_exists.mp hb)]
    exact hs

theorem rsmInv_reset : RsmInv State.reset := rsmInv_of_waitFlag1 rfl rfl

/-- Settles O49: only RX_BYTE and RESET write the reassembler, and both leave it in its invariant. -/
theorem reassemblerInvariantIsKept : Obligations.ReassemblerInvariantIsKept :=
  ⟨rsmInv_reset, fun _ _ => step_induct (fun _ _ hs => hs) fun _ _ _ _ _ => rsmInv_exec⟩

/-! ### The correlator (R53) -/

theorem txcInv_of_idle {s : State} (hx : s.txcState = .idle) (hseen : s.replySeen = false)
    (ha : s.attempt = 0) : TxcInv s := by
  simp [TxcInv, hx, hseen, ha]

/-- An attempt that begins from a request of legal length, with no outcome yet, leaves the invariant:
it waits with the flags it had, or ends with an error code (43_correlator.md R221). -/
theorem txcInv_txAttempt {s : State} (hl : 1 ≤ s.pendLen.toNat ∧ s.pendLen.toNat ≤ 256)
    (hseen : s.replySeen = false) (ha : s.attempt.toNat ≤ s.params.maxRetries.toNat)
    (hres : s.result = NONE) : TxcInv s.txAttempt := by
  obtain ⟨e, n, sd, ⟨f, h⟩ | ⟨c, h⟩⟩ := txAttempt_eq_with s <;> rw [h]
  · exact ⟨fun _ => hl, nofun, by simp [hseen], ha, fun _ => hres, nofun⟩
  · exact ⟨fun _ => hl, nofun, by simp [hseen], ha, by simp, fun _ => c.code_ne_none⟩

theorem txcInv_beginTransaction_txAttempt (s : State) (arg : Byte) {len : Len}
    (hl : 1 ≤ len.toNat ∧ len.toNat ≤ 256) : TxcInv (s.beginTransaction arg len).txAttempt := by
  refine txcInv_txAttempt ?_ rfl (Nat.zero_le _) rfl
  rwa [beginTransaction_pendLen, BitVec.toNat_ofNat, Nat.mod_eq_of_lt (by omega)]

theorem waiting_iff {s : State} :
    s.waiting = true ↔ s.txcState = .waitLoopback ∨ s.txcState = .waitReply := by
  simp [State.waiting]

theorem retryLimit_toNat_le (r : RetryLimit) : r.toNat ≤ 5 := by cases r <;> decide

/-- An outcome ends a wait in the invariant. -/
theorem txcInv_finish {s : State} {c : BitVec 8} (hs : TxcInv s) (hw : s.waiting = true)
    (hc : c ≠ NONE) : TxcInv (s.finish c) := by
  obtain ⟨hp, -, hq, ha, -, -⟩ := hs
  have hne : s.txcState ≠ .idle := by
    obtain h | h := waiting_iff.mp hw <;> simp [h]
  exact ⟨fun _ => hp hne, nofun, hq, ha, by simp, fun _ => hc⟩

theorem txcInv_loopbackOk {s : State} (hs : TxcInv s) (hw : s.txcState = .waitLoopback) :
    TxcInv s.loopbackOk := by
  obtain ⟨-, h⟩ | ⟨hq, hn, h⟩ := loopbackOk_cases s <;> rw [h]
  · exact txcInv_finish hs (waiting_iff.mpr (.inl hw)) (by decide)
  · obtain ⟨hp, -, -, ha, hr, -⟩ := hs
    exact ⟨fun _ => hp (by simp [hw]), fun _ => ⟨hq, hn⟩, fun _ => hq, ha, fun _ => hr (.inl hw),
      nofun⟩

/-- A reply is captured only for a request that wants one (43_correlator.md R211, R213). -/
theorem txcInv_captureReply {s : State} (p : List Byte) (hs : TxcInv s) (hq : s.replyReq = true) :
    TxcInv (s.captureReply p) := by
  obtain ⟨hp, -, -, ha, hr, hd⟩ := hs
  obtain ⟨hwr, h⟩ | ⟨hwr, h⟩ := captureReply_cases s p <;> rw [h]
  · have hok : TXN_OK ≠ NONE := by decide
    exact ⟨fun _ => hp (by simp [hwr]), nofun, fun _ => hq, ha, by simp, fun _ => hok⟩
  · exact ⟨hp, fun h => absurd h hwr, fun _ => hq, ha, hr, hd⟩

theorem txcInv_dispatchPacket {s : State} (op : Byte) (args : List Byte) (hs : TxcInv s) :
    TxcInv (s.dispatchPacket op args) := by
  obtain ⟨hw, -, -, -, h⟩ | ⟨hw, -, -, h⟩ | ⟨-, -, hq, -, h⟩ | ⟨-, -, h⟩ :=
    dispatchPacket_cases s op args <;> rw [h]
  · exact txcInv_loopbackOk hs hw
  · exact txcInv_finish hs (waiting_iff.mpr (.inl hw)) (by decide)
  · exact txcInv_captureReply _ hs hq
  · exact hs

/-- A retransmission stays within the retry limit, which fits ATTEMPT's four bits. -/
theorem txcInv_execTimeout {s t : State} (hs : TxcInv s) (h : execTimeout s = .next t) :
    TxcInv t := by
  obtain ⟨-, rfl⟩ | ⟨hw, hlt, rfl⟩ | ⟨hw, -, rfl⟩ := execTimeout_next h
  · exact hs
  · obtain ⟨hp, -, -, -, hr, -⟩ := hs
    have hwait := waiting_iff.mp hw
    refine txcInv_txAttempt (hp ?_) rfl ?_ (hr hwait)
    · obtain h | h := hwait <;> simp [h]
    · have := retryLimit_toNat_le s.params.maxRetries
      change (s.attempt + 1).toNat ≤ s.params.maxRetries.toNat
      rw [BitVec.toNat_add, show (1 : BitVec 4).toNat = 1 from rfl]
      omega
  · exact txcInv_finish hs hw (by decide)

theorem txcInv_exec {i : Instr} {s t : State} (hs : TxcInv s) (h : exec i s = .next t) :
    TxcInv t := by
  cases exec_effect h with
  | host | read => exact hs
  | send w arg len _ _ hl => exact txcInv_beginTransaction_txAttempt (s.issue w) arg hl
  | ack =>
    obtain ⟨-, -, hq, ha, -, -⟩ := hs
    exact ⟨fun h => absurd rfl h, nofun, hq, ha, by simp, nofun⟩
  | packet op args => exact txcInv_dispatchPacket op args hs
  | receive b _ _ h =>
    obtain ⟨x, rfl⟩ | ⟨x, y, op, args, -, rfl⟩ := execRxByte_eq_withRx h
    · exact hs
    · exact txcInv_dispatchPacket (s := s.withRx x) op args hs
  | timeout _ _ h => exact txcInv_execTimeout hs h
  | reset => exact txcInv_of_idle rfl rfl rfl

/-- Settles O50, by the cases of what an operation can do. -/
theorem correlatorInvariantIsKept : Obligations.CorrelatorInvariantIsKept :=
  fun _ _ => step_induct (fun _ _ hs => hs) fun _ _ _ _ _ => txcInv_exec

/-! ### The outcome of a transaction (R53, last clause) -/

/-- From `s` to `t` a transaction reaches an outcome, or RESULT stays and no transaction begins. -/
def OutcomeOrSame (s t : State) : Prop :=
  (t.txcState = .done ∧ t.result ≠ NONE) ∨
  (t.result = s.result ∧ (t.txcState = .done → s.txcState = .done) ∧
    (s.txcState = .idle → t.txcState = .idle))

theorem outcomeOrSame_of_eq {s t : State} (hr : t.result = s.result)
    (hx : t.txcState = s.txcState) : OutcomeOrSame s t :=
  .inr ⟨hr, fun h => hx ▸ h, fun h => hx ▸ h⟩

theorem outcomeOrSame_finish (s : State) {t : State} {c : BitVec 8} (hc : c ≠ NONE) :
    OutcomeOrSame s (t.finish c) := .inl ⟨rfl, hc⟩

/-- After an attempt the correlator waits for the loopback with RESULT as it was, or there is an
outcome. -/
theorem txAttempt_outcome (s : State) :
    (s.txAttempt.txcState = .waitLoopback ∧ s.txAttempt.result = s.result) ∨
    (s.txAttempt.txcState = .done ∧ s.txAttempt.result ≠ NONE) := by
  obtain ⟨e, n, sd, ⟨f, h⟩ | ⟨c, h⟩⟩ := txAttempt_eq_with s <;> rw [h]
  · exact .inl ⟨rfl, rfl⟩
  · exact .inr ⟨rfl, c.code_ne_none⟩

theorem outcomeOrSame_dispatchPacket (s : State) (op : Byte) (args : List Byte) :
    OutcomeOrSame s (s.dispatchPacket op args) := by
  obtain ⟨hw, -, -, -, h⟩ | ⟨-, -, -, h⟩ | ⟨-, -, -, -, h⟩ | ⟨-, -, h⟩ :=
    dispatchPacket_cases s op args <;> rw [h]
  · obtain ⟨-, h⟩ | ⟨-, -, h⟩ := loopbackOk_cases s <;> rw [h]
    · exact outcomeOrSame_finish s (by decide)
    · exact .inr ⟨rfl, nofun, by simp [hw]⟩
  · exact outcomeOrSame_finish s (by decide)
  · obtain ⟨-, h⟩ | ⟨-, h⟩ := captureReply_cases s (op :: args) <;> rw [h]
    · exact outcomeOrSame_finish s (by decide)
    · exact outcomeOrSame_of_eq rfl rfl
  · exact outcomeOrSame_of_eq rfl rfl

theorem outcomeOrSame_execTimeout {s t : State} (h : execTimeout s = .next t) :
    OutcomeOrSame s t := by
  obtain ⟨-, rfl⟩ | ⟨hw, -, rfl⟩ | ⟨-, -, rfl⟩ := execTimeout_next h
  · exact outcomeOrSame_of_eq rfl rfl
  · obtain ⟨hx, hr⟩ | hd := txAttempt_outcome s.retried
    · refine .inr ⟨hr, fun hd => absurd (hx.symm.trans hd) nofun, fun hi => ?_⟩
      obtain h | h := waiting_iff.mp hw <;> simp [hi] at h
    · exact .inl hd
  · exact outcomeOrSame_finish s (by decide)

/-- Only TXN_SEND and RESET set RESULT back to NONE; whatever else an operation does, a transaction
reaches an outcome or RESULT stays. -/
theorem exec_outcome {i : Instr} {s t : State} (h : exec i s = .next t) :
    (s.txcState = .idle ∧ t.txcState = .waitLoopback ∧ t.result = NONE) ∨
    (i = .reset ∧ t.txcState = .idle ∧ t.result = NONE) ∨
    (i ≠ .reset ∧ OutcomeOrSame s t) := by
  cases exec_effect h with
  | host x hi => exact .inr (.inr ⟨hi, outcomeOrSame_of_eq rfl rfl⟩)
  | read v hi => exact .inr (.inr ⟨hi, outcomeOrSame_of_eq rfl rfl⟩)
  | send w arg len hi hs =>
    have hr : i ≠ .reset := by rintro rfl; cases hi
    obtain ⟨ht, hn⟩ | hd := txAttempt_outcome ((s.issue w).beginTransaction arg len)
    · exact .inl ⟨hs, ht, hn⟩
    · exact .inr (.inr ⟨hr, .inl hd⟩)
  | ack w hi =>
    have hr : i ≠ .reset := by rintro rfl; cases hi
    exact .inr (.inr ⟨hr, .inr ⟨rfl, nofun, fun _ => rfl⟩⟩)
  | packet op args hi =>
    have hr : i ≠ .reset := by rintro rfl; cases hi
    exact .inr (.inr ⟨hr, outcomeOrSame_dispatchPacket s op args⟩)
  | receive b _ hi h =>
    refine .inr (.inr ⟨by simp [hi], ?_⟩)
    obtain ⟨x, rfl⟩ | ⟨x, y, op, args, -, rfl⟩ := execRxByte_eq_withRx h
    · exact outcomeOrSame_of_eq rfl rfl
    · exact outcomeOrSame_dispatchPacket (s.withRx x) op args
  | timeout _ hi h => exact .inr (.inr ⟨by simp [hi], outcomeOrSame_execTimeout h⟩)
  | reset hi => exact .inr (.inl ⟨hi, rfl, rfl⟩)

/-- The history after an operation that ends no transaction and starts none is the history before. -/
theorem outcomeSince_of_same {i : Instr} {s t : State} {seen : Bool} (hi : i ≠ .reset)
    (hseen : s.txcState = .done → seen = true) (hd : t.txcState = .done → s.txcState = .done)
    (hidle : s.txcState = .idle → t.txcState = .idle) : outcomeSince i s t seen = seen := by
  unfold outcomeSince
  by_cases ht : t.txcState = .done
  · simp [ht, hseen (hd ht)]
  · have : ¬ (s.txcState = .idle ∧ t.txcState ≠ .idle) := fun h => h.2 (hidle h.1)
    simp only [if_neg ht, if_neg hi, if_neg this]

/-- Settles O51: RESULT goes to NONE exactly where the history is cleared. -/
theorem resultIsNoneUntilAnOutcome : Obligations.ResultIsNoneUntilAnOutcome := by
  intro i s t seen _ hseen hres h
  obtain ⟨hs, ht, hr⟩ | ⟨rfl, ht, hr⟩ | ⟨hi, ⟨ht, hr⟩ | ⟨hr, hd, hidle⟩⟩ := exec_outcome h
  · simp [outcomeSince, hs, ht, hr]
  · simp [outcomeSince, ht, hr]
  · simpa [outcomeSince, ht] using hr
  · rw [outcomeSince_of_same hi hseen hd hidle, hr]
    exact hres

/-! ### The output streams (R48) -/

/-- The streams of `t` begin with those of `s`, and the parameters are the same. -/
def StreamsGrow (s t : State) : Prop :=
  s.txOut <+: t.txOut ∧ s.pktOut <+: t.pktOut ∧ s.hostReads <+: t.hostReads ∧ t.params = s.params

theorem streamsGrow_of_eq {s t : State} (h1 : t.txOut = s.txOut) (h2 : t.pktOut = s.pktOut)
    (h3 : t.hostReads = s.hostReads) (h4 : t.params = s.params) : StreamsGrow s t := by
  simp [StreamsGrow, h1, h2, h3, h4]

theorem streamsGrow_txAttempt (s : State) : StreamsGrow s s.txAttempt := by
  obtain ⟨e, n, sd, ⟨f, h⟩ | ⟨c, h⟩⟩ := txAttempt_eq_with s <;> rw [h]
  · exact ⟨List.prefix_append _ _, List.prefix_rfl, List.prefix_rfl, rfl⟩
  · exact streamsGrow_of_eq rfl rfl rfl rfl

theorem streamsGrow_dispatchPacket (s : State) (op : Byte) (args : List Byte) :
    StreamsGrow s (s.dispatchPacket op args) := by
  obtain ⟨-, -, -, -, h⟩ | ⟨-, -, -, h⟩ | ⟨-, -, -, -, h⟩ | ⟨-, -, h⟩ :=
    dispatchPacket_cases s op args <;> rw [h]
  · obtain ⟨-, h⟩ | ⟨-, -, h⟩ := loopbackOk_cases s <;> rw [h] <;>
      exact streamsGrow_of_eq rfl rfl rfl rfl
  · exact streamsGrow_of_eq rfl rfl rfl rfl
  · obtain ⟨-, h⟩ | ⟨-, h⟩ := captureReply_cases s (op :: args) <;> rw [h] <;>
      exact streamsGrow_of_eq rfl rfl rfl rfl
  · exact ⟨List.prefix_rfl, List.prefix_append _ _, List.prefix_rfl, rfl⟩

theorem exec_streamsGrow {i : Instr} {s t : State} (h : exec i s = .next t) : StreamsGrow s t := by
  cases exec_effect h with
  | host | ack | reset => exact streamsGrow_of_eq rfl rfl rfl rfl
  | send w arg len => exact streamsGrow_txAttempt ((s.issue w).beginTransaction arg len)
  | packet op args => exact streamsGrow_dispatchPacket s op args
  | receive b _ _ h =>
    obtain ⟨x, rfl⟩ | ⟨x, y, op, args, -, rfl⟩ := execRxByte_eq_withRx h
    · exact streamsGrow_of_eq rfl rfl rfl rfl
    · exact streamsGrow_dispatchPacket (s.withRx x) op args
  | timeout _ _ h =>
    obtain ⟨-, rfl⟩ | ⟨-, -, rfl⟩ | ⟨-, -, rfl⟩ := execTimeout_next h
    · exact streamsGrow_of_eq rfl rfl rfl rfl
    · exact streamsGrow_txAttempt s.retried
    · exact streamsGrow_of_eq rfl rfl rfl rfl
  | read => exact ⟨List.prefix_rfl, List.prefix_rfl, List.prefix_append _ _, rfl⟩

/-- Settles O58, by the cases of what an operation can do. -/
theorem outputStreamsOnlyGrow : Obligations.OutputStreamsOnlyGrow :=
  fun _ _ _ => exec_streamsGrow

/-! ### Lengths and packets (R24, R39; 42_reassembler.md R192) -/

/-- The decoder reads only packets of 1 to 251 bytes (43_correlator.md R211, log 15). -/
theorem decodePacket_ok {mk : Byte → List Byte → Instr} {bs : List Byte} {i : Instr}
    (h : decodePacket mk bs = .ok i) : ∃ op args, packetFits args = true ∧ i = mk op args := by
  cases bs with
  | nil => cases h
  | cons op args =>
    simp only [decodePacket] at h
    split at h <;> cases h
    exact ⟨op, args, ‹_›, rfl⟩

/-- One row of `packetInstr`: an opcode that is the row's, or one of a later row. -/
theorem ite_opcode_eq {op k : Byte} {args : List Byte} {later : Option (Byte × List Byte)}
    (h : later = some (op, args)) :
    (if op = k then some (k, args) else later) = some (op, args) := by
  split
  · subst op; rfl
  · exact h

/-- The row of the opcode table a packet falls in carries that packet. -/
theorem packetInstr_packet? (op : Byte) (args : List Byte) :
    (packetInstr op args).packet? = some (op, args) := by
  simp only [packetInstr, apply_ite Instr.packet?]
  iterate 25 refine ite_opcode_eq ?_
  rfl

theorem decodeCommand_packet? (w : Word) : (decodeCommand w).packet? = none := by
  simp only [decodeCommand, apply_ite Instr.packet?]
  simp only [Instr.packet?, ite_self]

theorem decodeMemRead_packet? {bs : List Byte} {i : Instr} (h : decodeMemRead bs = .ok i) :
    i.packet? = none := by
  unfold decodeMemRead at h
  repeat' split at h
  all_goals cases h
  all_goals rfl

theorem decodeMemWrite_packet? {bs : List Byte} {i : Instr} (h : decodeMemWrite bs = .ok i) :
    i.packet? = none := by
  unfold decodeMemWrite at h
  repeat' split at h
  all_goals cases h
  all_goals rfl

/-- An event that stands for a packet is one at the dispatcher's ports, and the packet fits. -/
theorem packetFits_of_decode {e : Event} {i : Instr} {op : Byte} {args : List Byte}
    (hd : decode e = .ok i) (hp : i.packet? = some (op, args)) : packetFits args = true := by
  obtain ⟨port, bytes⟩ := e
  cases port <;> simp only [decode] at hd
  case dispatch =>
    obtain ⟨op', args', hf, rfl⟩ := decodePacket_ok hd
    cases hp
    exact hf
  case packet =>
    obtain ⟨op', args', hf, rfl⟩ := decodePacket_ok hd
    rw [packetInstr_packet?] at hp
    cases hp
    exact hf
  case memRead => rw [decodeMemRead_packet? hd] at hp; cases hp
  case memWrite => rw [decodeMemWrite_packet? hd] at hp; cases hp
  all_goals split at hd <;> cases hd
  · rw [decodeCommand_packet?] at hp; cases hp
  all_goals cases hp

/-- An attempt touches no length register and emits no packet. -/
theorem lengthsInv_txAttempt {s : State} (hs : LengthsInv s) : LengthsInv s.txAttempt := by
  obtain ⟨e, n, sd, ⟨f, h⟩ | ⟨c, h⟩⟩ := txAttempt_eq_with s <;> rw [h] <;> exact hs

theorem lengthsInv_withReply {s : State} {p : List Byte} (hs : LengthsInv s) (hp : p.length ≤ 251) :
    LengthsInv (s.withReply p) := by
  obtain ⟨ho, -, hk⟩ := hs
  refine ⟨ho, ?_, hk⟩
  change (BitVec.ofNat 9 p.length).toNat ≤ 251
  rw [BitVec.toNat_ofNat]
  exact (Nat.mod_le _ _).trans hp

/-- A packet on PKT carries the category of its opcode (30_encoding.md R117). -/
theorem lengthsInv_pktEmit {s : State} {op : Byte} {args : List Byte} (hs : LengthsInv s)
    (hp : args.length + 1 ≤ 251) : LengthsInv (s.pktEmit (category op) (op :: args)) := by
  obtain ⟨ho, hr, hk⟩ := hs
  refine ⟨ho, hr, fun e he => ?_⟩
  rw [pktEmit_pktOut, List.mem_append, List.mem_singleton] at he
  obtain he | rfl := he
  · exact hk e he
  · exact ⟨Nat.le_add_left 1 _, hp, rfl⟩

theorem lengthsInv_dispatchPacket {s : State} {op : Byte} {args : List Byte} (hs : LengthsInv s)
    (hp : args.length + 1 ≤ 251) : LengthsInv (s.dispatchPacket op args) := by
  obtain ⟨-, -, -, -, h⟩ | ⟨-, -, -, h⟩ | ⟨-, -, -, -, h⟩ | ⟨-, -, h⟩ :=
    dispatchPacket_cases s op args <;> rw [h]
  · obtain ⟨-, h⟩ | ⟨-, -, h⟩ := loopbackOk_cases s <;> rw [h] <;> exact hs
  · exact hs
  · obtain ⟨-, h⟩ | ⟨-, h⟩ := captureReply_cases s (op :: args) <;> rw [h] <;>
      exact lengthsInv_withReply (s := s) hs hp
  · exact lengthsInv_pktEmit hs hp

theorem lengthsInv_replyLen_zero {s t : State} (hs : LengthsInv s) (ho : t.outLen = s.outLen)
    (hr : t.replyLen = 0) (hk : t.pktOut = s.pktOut) : LengthsInv t := by
  obtain ⟨hb, -, hp⟩ := hs
  exact ⟨ho ▸ hb, hr ▸ Nat.zero_le _, hk ▸ hp⟩

theorem lengthsInv_afterReset {s : State} (hs : LengthsInv s) : LengthsInv s.afterReset := by
  obtain ⟨-, -, hk⟩ := hs
  exact ⟨Nat.zero_le _, Nat.zero_le _, hk⟩

/-- An operation keeps the lengths in range if the packet it dispatches, if any, fits. -/
theorem lengthsInv_exec {i : Instr} {s t : State}
    (hf : ∀ op args, i.packet? = some (op, args) → packetFits args = true)
    (hs : LengthsInv s) (h : exec i s = .next t) : LengthsInv t := by
  cases exec_effect h with
  | ack | read => exact hs
  | host x _ ho =>
    obtain ⟨hb, hr, hk⟩ := hs
    refine ⟨?_, hr, hk⟩
    obtain ho | ho := ho
    · exact ho ▸ hb
    · exact ho
  | send w arg len =>
    have hb : LengthsInv ((s.issue w).beginTransaction arg len) :=
      lengthsInv_replyLen_zero hs rfl rfl rfl
    exact lengthsInv_txAttempt hb
  | packet op args hi =>
    exact lengthsInv_dispatchPacket hs (of_decide_eq_true (hf op args hi))
  | receive b _ _ h =>
    obtain ⟨x, rfl⟩ | ⟨x, y, op, args, hp, rfl⟩ := execRxByte_eq_withRx h
    · exact hs
    · exact lengthsInv_dispatchPacket (s := s.withRx x) hs hp
  | timeout _ _ h =>
    obtain ⟨-, rfl⟩ | ⟨-, -, rfl⟩ | ⟨-, -, rfl⟩ := execTimeout_next h
    · exact hs
    · exact lengthsInv_txAttempt (lengthsInv_replyLen_zero hs rfl rfl rfl)
    · exact hs
  | reset => exact lengthsInv_afterReset hs

/-- Settles O53: what the decoder lets through fits, and so does what the reassembler can hold. -/
theorem lengthsAndPacketsStayInRange : Obligations.LengthsAndPacketsStayInRange :=
  fun _ _ => step_induct (fun _ _ hs => hs) fun _ _ _ _ hd =>
    lengthsInv_exec fun _ _ => packetFits_of_decode hd

/-! ### The reset state (R54, 70_reset_and_hazards.md R310) -/

theorem codesInv_of_zero {s : State} (hst : s.status = OK) (hrx : s.rxLast = 0)
    (hr : s.result = NONE) : CodesInv s := by
  rw [CodesInv, hst, hrx, hr]
  decide

/-- Settles O54: every register is at its reset value, and RESET keeps the packets emitted. -/
theorem resetMeetsTheInvariants : Obligations.ResetMeetsTheInvariants := by
  refine ⟨⟨rsmInv_reset, txcInv_of_idle rfl rfl rfl, codesInv_of_zero rfl rfl rfl,
    Nat.zero_le _, Nat.zero_le _, nofun⟩, fun s t hs h => ?_⟩
  cases h
  exact ⟨rsmInv_of_waitFlag1 rfl rfl, txcInv_of_idle rfl rfl rfl, codesInv_of_zero rfl rfl rfl,
    lengthsInv_afterReset hs⟩

end Sys2Proof.Machine
end

section
/-! SUPPORT. The host's view of the registers and the buffers (20_memory.md R66 to R72): the number
each packed register word holds, the byte at an address of a window, and what a 1-byte write stores. -/

namespace Sys2Proof.Machine

/-! ### Packed words -/

/-- Bits above bits, as a number. -/
theorem toNat_append_eq_add {m n : Nat} (x : BitVec m) (y : BitVec n) :
    (x ++ y).toNat = x.toNat * 2 ^ n + y.toNat := by
  rw [BitVec.toNat_append, ← Nat.shiftLeft_add_eq_or_of_lt y.isLt, Nat.shiftLeft_eq]

theorem rsmWord_toNat (s : State) :
    s.rsmWord.toNat = s.rsmState.code.toNat + 0x100 * s.rsmLen.toNat := by
  simp only [State.rsmWord, toNat_append_eq_add, BitVec.toNat_ofNat]
  omega

theorem txcWord_toNat (s : State) :
    s.txcWord.toNat = s.txcState.code.toNat + 0x100 * s.replyReq.toNat
      + 0x200 * s.replySeen.toNat + 0x400 * s.irq.toNat + 0x1000 * s.attempt.toNat
      + 0x10000 * s.result.toNat := by
  simp only [State.txcWord, toNat_append_eq_add, BitVec.toNat_ofNat, BitVec.toNat_ofBool]
  omega

theorem paramWord_toNat (s : State) :
    s.paramWord.toNat = s.params.maxRetries.toNat + 0x100 * 64 := by
  have := retryLimit_toNat_le s.params.maxRetries
  simp only [State.paramWord, toNat_append_eq_add, BitVec.toNat_ofNat, Config.KEY_LEN]
  omega

/-- R70, R71: the register map slot by slot; at no other address is there a register. -/
theorem registerWord_toNat (s : State) (addr : Nat) :
    (s.registerWord addr).toNat = Form.registerValue s addr := by
  unfold Form.registerValue
  split
  on_goal 17 => simp_all [State.registerWord] -- the address differs from every slot's
  all_goals simp [State.registerWord, BitVec.toNat_setWidth_of_le, -BitVec.toNat_setWidth,
    rsmWord_toNat, txcWord_toNat, paramWord_toNat, State.irq]

/-! ### Windows -/

variable {n : Nat}

theorem windowAt_add (base : Nat) (v : Vector Byte n) {i : Nat} (hi : i < n) :
    windowAt base v (base + i) = some v[i] := by
  simp [windowAt, hi]

theorem windowAt_eq_none {base addr : Nat} {v : Vector Byte n}
    (h : addr < base ∨ base + n ≤ addr) : windowAt base v addr = none := by
  unfold windowAt
  split
  · exact Vector.getElem?_eq_none (by omega)
  · rfl

section
variable (s : State) {i : Nat}

/-! R72: the windows are disjoint, so at an address of one the others have no byte. -/

theorem windowByte_a (hi : i < 1024) : s.windowByte (0x1000 + i) = s.a[i] := by
  simp (disch := grind) [State.windowByte, windowAt_add]

theorem windowByte_b (hi : i < 1024) : s.windowByte (0x1400 + i) = s.b[i] := by
  simp (disch := grind) [State.windowByte, windowAt_eq_none, windowAt_add]

theorem windowByte_rsmBuf (hi : i < 256) : s.windowByte (0x1800 + i) = s.rsmBuf[i] := by
  simp (disch := grind) [State.windowByte, windowAt_eq_none, windowAt_add]

theorem windowByte_pendBuf (hi : i < 256) : s.windowByte (0x1900 + i) = s.pendBuf[i] := by
  simp (disch := grind) [State.windowByte, windowAt_eq_none, windowAt_add]

theorem windowByte_replyBuf (hi : i < 256) : s.windowByte (0x1A00 + i) = s.replyBuf[i] := by
  simp (disch := grind) [State.windowByte, windowAt_eq_none, windowAt_add]

theorem windowByte_key (hi : i < 64) : s.windowByte (0x1B00 + i) = s.params.key[i] := by
  simp (disch := grind) [State.windowByte, windowAt_eq_none, windowAt_add]

/-- R68: an address below or above all the windows reads 0. -/
theorem windowByte_outside {addr : Nat} (h : addr < 0x1000 ∨ 0x1B40 ≤ addr) :
    s.windowByte addr = 0 := by
  simp (disch := grind) [State.windowByte, windowAt_eq_none]

end

/-! ### A 1-byte write -/

theorem writeByte_window (s : State) {i : Nat} (v : Byte) (hi : i < 1024) :
    s.writeByte (0x1000 + i) v = { s with a := s.a.set i v } := by
  simp [State.writeByte, Vector.setIfInBounds, Vector.set, Array.setIfInBounds, hi]

theorem writeByte_outside (s : State) {addr : Nat} (v : Byte) (h : addr < 0x1000 ∨ 0x1400 ≤ addr) :
    s.writeByte addr v = s := by
  unfold State.writeByte
  split
  · rw [Vector.setIfInBounds_eq_of_size_le (by simp only [Config.BUF_BYTES]; omega)]
  · rfl

end Sys2Proof.Machine
end

section
/-! PROOF. The host accesses other than a write of CMD (20_memory.md R66 to R72). -/

namespace Sys2Proof.Machine

theorem exec_memRead (addr : Addr) (n : Width) (s : State) :
    exec (.memRead addr n) s = .next { s with hostReads := s.hostReads ++ [s.hostRead addr n] } := rfl

theorem exec_memWrite (addr : Addr) (n : Width) (v : Word) (s : State) :
    exec (.memWrite addr n v) s = execMemWrite addr n v s := rfl

theorem hostRead_byte_toNat {s : State} {addr : Addr} {k : Nat} {x : Byte} (ha : addr.toNat = k)
    (hx : s.windowByte k = x) : (s.hostRead addr .byte).toNat = x.toNat := by
  rw [State.hostRead, ha, hx, BitVec.toNat_setWidth_of_le (by decide)]

/-- Settles O44: the register word of every address holds the number of the register map. -/
theorem wordReadsReturnTheRegisters : Obligations.WordReadsReturnTheRegisters :=
  fun s addr => ⟨_, exec_memRead addr .word s, registerWord_toNat s addr.toNat⟩

/-- Settles O45: one equation of the window byte per window, and one outside them. -/
theorem byteReadsReturnTheWindows : Obligations.ByteReadsReturnTheWindows := by
  refine fun s addr => ⟨_, exec_memRead addr .byte s, ?_, ?_, ?_, ?_, ?_, ?_, fun ha => ?_⟩
  · exact fun _ hi ha => hostRead_byte_toNat ha (windowByte_a s hi)
  · exact fun _ hi ha => hostRead_byte_toNat ha (windowByte_b s hi)
  · exact fun _ hi ha => hostRead_byte_toNat ha (windowByte_rsmBuf s hi)
  · exact fun _ hi ha => hostRead_byte_toNat ha (windowByte_pendBuf s hi)
  · exact fun _ hi ha => hostRead_byte_toNat ha (windowByte_replyBuf s hi)
  · exact fun _ hi ha => hostRead_byte_toNat ha (windowByte_key s hi)
  · exact BitVec.eq_of_toNat_eq (hostRead_byte_toNat (x := 0) rfl (windowByte_outside s ha))

/-- Settles O47: CTRL keeps bit 0, window A stores its byte, every other address ignores the write. -/
theorem otherHostWrites : Obligations.OtherHostWrites := by
  intro addr v s
  simp only [exec_memWrite, execMemWrite]
  refine ⟨fun ha => ?_, fun h0 h1 => ?_, fun i hi ha => ?_, fun ha => ?_⟩
  · rw [if_neg (by omega), if_pos ha]
  · rw [if_neg h0, if_neg h1]
  · rw [ha, writeByte_window s _ hi]
  · rw [writeByte_outside s _ ha]

end Sys2Proof.Machine
end

section
/-! PROOF. Who writes the reassembler's and the correlator's state (20_memory.md R79), by the cases
of `Effect`. -/

namespace Sys2Proof.Machine

/-- `s` with the pending request of `x`, its attempt number and its seed (10_state.md R36, R37, R40,
R42). -/
def State.withRequest (s x : State) : State :=
  { s with
    pendBuf := x.pendBuf, pendLen := x.pendLen, replyReq := x.replyReq
    attempt := x.attempt, txcSeed := x.txcSeed }

/-- `s` with the reply and the outcome of `x` (10_state.md R38, R39, R41). -/
def State.withOutcome (s x : State) : State :=
  { s with
    result := x.result, replySeen := x.replySeen
    replyBuf := x.replyBuf, replyLen := x.replyLen }

theorem receives_of_packet? {i : Instr} {p : Byte × List Byte} (h : i.packet? = some p) :
    i.receives = true := by
  unfold Instr.receives
  split
  · rfl
  · simp [h]

/-- The dispatcher reads the pending request and writes none of it (43_correlator.md R211). -/
theorem dispatchPacket_keeps_request (s : State) (op : Byte) (args : List Byte) :
    s.dispatchPacket op args = (s.dispatchPacket op args).withRequest s := by
  obtain ⟨-, -, -, -, h⟩ | ⟨-, -, -, h⟩ | ⟨-, -, -, -, h⟩ | ⟨-, -, h⟩ :=
    dispatchPacket_cases s op args <;> rw [h]
  · obtain ⟨-, h⟩ | ⟨-, -, h⟩ := loopbackOk_cases s <;> rw [h] <;> rfl
  · rfl
  · obtain ⟨-, h⟩ | ⟨-, h⟩ := captureReply_cases s (op :: args) <;> rw [h] <;> rfl
  · rfl

section
variable {i : Instr} {s t : State}

theorem exec_keeps_request (h : exec i s = .next t) (hr : i ≠ .reset)
    (hsend : i.runsOp 0x08 = false) (ht : i ≠ .timeout) : t = t.withRequest s := by
  cases exec_effect h with
  | host | ack | read => rfl
  | send _ _ _ hi => exact nomatch hsend.symm.trans hi
  | packet op args => exact dispatchPacket_keeps_request s op args
  | receive b _ _ h =>
    obtain ⟨x, rfl⟩ | ⟨x, y, op, args, -, rfl⟩ := execRxByte_eq_withRx h
    · rfl
    · rw [dispatchPacket_keeps_request]; rfl
  | timeout _ hi => exact absurd hi ht
  | reset hi => exact absurd hi hr

theorem exec_keeps_outcome (h : exec i s = .next t) (hr : i ≠ .reset)
    (hsend : i.runsOp 0x08 = false) (ht : i ≠ .timeout) (hrx : i.receives = false) :
    t = t.withOutcome s ∧ (i.runsOp 0x09 = false → t.txcState = s.txcState) := by
  cases exec_effect h with
  | host | read => exact ⟨rfl, fun _ => rfl⟩
  | ack _ hi => exact ⟨rfl, fun hack => nomatch hack.symm.trans hi⟩
  | send _ _ _ hi => exact nomatch hsend.symm.trans hi
  | packet op args hi => exact nomatch hrx.symm.trans (receives_of_packet? hi)
  | receive b _ hi => subst hi; cases hrx
  | timeout _ hi => exact absurd hi ht
  | reset hi => exact absurd hi hr

end

/-- Settles O56: each group of fields is kept by every operation that is none of its owners. -/
theorem stateIsWrittenByItsOwnersOnly : Obligations.StateIsWrittenByItsOwnersOnly := by
  refine fun i s t h hr => ⟨fun hb => ?_, fun hsend ht => ?_, fun hsend ht hrx => ?_⟩
  · rw [exec_keeps_rx h hr hb]
    exact ⟨rfl, rfl, rfl, rfl, rfl, rfl, rfl, rfl⟩
  · rw [exec_keeps_request h hr hsend ht]
    exact ⟨rfl, rfl, rfl, rfl, rfl⟩
  · obtain ⟨hout, hx⟩ := exec_keeps_outcome h hr hsend ht hrx
    rw [hout]
    exact ⟨rfl, rfl, rfl, rfl, hx⟩

end Sys2Proof.Machine
end

section
/-! PROOF. The sixteen command rows (30_encoding.md R94, R95): every command's word is a word of its
row, no word is a word of two rows, and the row and the word determine the command. What the decoder
does with a command's word follows from these, with no walk through its comparisons. -/

open Sys2Proof.Form

namespace Sys2Proof

/-! ### Masks and bit fields -/

/-- A word whose top bits are `c` is one that the mask of those bits matches to `c`. -/
theorem and_mask_of_extractLsb' {m k : Nat} {w : BitVec (m + k)} {c : BitVec m}
    (h : w.extractLsb' k m = c) : w &&& (BitVec.allOnes m ++ 0#k) = c ++ 0#k := by
  subst h
  conv_lhs => rw [← BitVec.extractLsb'_append_extractLsb' (x := w) (len := k)]
  rw [BitVec.and_append, BitVec.and_allOnes, BitVec.and_zero]

theorem append_and_mask {m k : Nat} (c : BitVec m) (rest : BitVec k) :
    (c ++ rest) &&& (BitVec.allOnes m ++ 0#k) = c ++ 0#k :=
  and_mask_of_extractLsb' BitVec.extractLsb'_append_eq_left

theorem cmdWord_and_mask (op arg : Byte) (len : Len) :
    cmdWord op arg len &&& (BitVec.allOnes 8 ++ 0#24) = op ++ 0#24 :=
  and_mask_of_extractLsb' (m := 8) (k := 24) (cmdOp_cmdWord op arg len)

/-- The top bits and the rest make up the word. -/
theorem append_rest_of_extractLsb' {m k : Nat} {w : BitVec (m + k)} {c : BitVec m}
    (h : w.extractLsb' k m = c) : c ++ w.extractLsb' 0 k = w :=
  h ▸ BitVec.extractLsb'_append_extractLsb'

/-- The top bits of a word, as a number. -/
theorem extractLsb'_top_eq_iff {m k : Nat} {w : BitVec (m + k)} {c : BitVec m} :
    w.extractLsb' k m = c ↔ w.toNat / 2 ^ k = c.toNat := by
  rw [← BitVec.toNat_inj, BitVec.extractLsb'_toNat, Nat.shiftRight_eq_div_pow, Nat.mod_eq_of_lt]
  exact Nat.div_lt_of_lt_mul (Nat.pow_add 2 k m ▸ Nat.add_comm m k ▸ w.isLt)

/-! ### The rows -/

/-- `w` is a word of row `k` of the command rows. -/
def InRow (w : Word) (k : Nat) : Prop := ∃ r, commandRows[k]? = some r ∧ w &&& r.1 = r.2

/-- A command's word is a word of the command's row. -/
theorem inRow_of_commandWord? {i : Instr} {w : Word} (h : i.commandWord? = some w) :
    ∃ k, rowOf i = some k ∧ InRow w k := by
  cases i <;> cases h
  case nop arg len => exact ⟨0, rfl, _, rfl, cmdWord_and_mask 0x00 arg len⟩
  case scramble arg len => exact ⟨1, rfl, _, rfl, cmdWord_and_mask 0x01 arg len⟩
  case descramble arg len => exact ⟨2, rfl, _, rfl, cmdWord_and_mask 0x02 arg len⟩
  case encode arg len => exact ⟨3, rfl, _, rfl, cmdWord_and_mask 0x03 arg len⟩
  case encodeH arg len => exact ⟨4, rfl, _, rfl, cmdWord_and_mask 0x04 arg len⟩
  case decode arg len => exact ⟨5, rfl, _, rfl, cmdWord_and_mask 0x05 arg len⟩
  case copyB2a arg len => exact ⟨6, rfl, _, rfl, cmdWord_and_mask 0x06 arg len⟩
  case reserved07 rest => exact ⟨7, rfl, _, rfl, append_and_mask 0x07#8 rest⟩
  case txnSend arg len => exact ⟨8, rfl, _, rfl, cmdWord_and_mask 0x08 arg len⟩
  case txnAck arg len => exact ⟨9, rfl, _, rfl, cmdWord_and_mask 0x09 arg len⟩
  case reserved0A rest => exact ⟨10, rfl, _, rfl, append_and_mask 0x05#7 rest⟩
  case reserved0C rest => exact ⟨11, rfl, _, rfl, append_and_mask 0x03#6 rest⟩
  case reserved10 rest => exact ⟨12, rfl, _, rfl, append_and_mask 0x1#4 rest⟩
  case reserved20 rest => exact ⟨13, rfl, _, rfl, append_and_mask 0x1#3 rest⟩
  case reserved40 rest => exact ⟨14, rfl, _, rfl, append_and_mask 0x1#2 rest⟩
  case reserved80 rest => exact ⟨15, rfl, _, rfl, append_and_mask 0x1#1 rest⟩

/-- Any two command rows fix some bit to different values. -/
theorem commandRows_pairwise_conflict :
    commandRows.Pairwise fun r r' => r.1 &&& r'.1 &&& (r.2 ^^^ r'.2) ≠ 0 := by decide

/-- Two rows with a word in common fix no bit to different values. -/
theorem masks_agree {n : Nat} {w m v m' v' : BitVec n} (h : w &&& m = v) (h' : w &&& m' = v') :
    m &&& m' &&& (v ^^^ v') = 0#n := by
  subst h h'
  ext j hj
  simp only [BitVec.getElem_and, BitVec.getElem_xor, BitVec.getElem_zero]
  cases w[j] <;> cases m[j] <;> cases m'[j] <;> rfl

theorem InRow.le {w : Word} {k k' : Nat} (h : InRow w k) (h' : InRow w k') : k' ≤ k := by
  obtain ⟨r, hr, hw⟩ := h
  obtain ⟨r', hr', hw'⟩ := h'
  obtain ⟨hk, rfl⟩ := List.getElem?_eq_some_iff.mp hr
  obtain ⟨hk', rfl⟩ := List.getElem?_eq_some_iff.mp hr'
  exact Nat.not_lt.mp fun hlt =>
    List.pairwise_iff_getElem.mp commandRows_pairwise_conflict k k' hk hk' hlt (masks_agree hw hw')

/-- No word is a word of two rows. -/
theorem InRow.unique {w : Word} {k k' : Nat} (h : InRow w k) (h' : InRow w k') : k = k' :=
  Nat.le_antisymm (h'.le h) (h.le h')

/-! ### The decoder on command words -/

/-- One comparison of the decoder: the command it answers, or a later one. -/
theorem commandWord?_ite {p : Prop} [Decidable p] {i j : Instr} {w : Word}
    (hi : p → i.commandWord? = some w) (hj : ¬ p → j.commandWord? = some w) :
    (if p then i else j).commandWord? = some w := by
  split
  · exact hi ‹p›
  · exact hj ‹¬ p›

/-- No bit of a word is lost by the decoder: the command it answers has that word. The last row takes
what the others leave, the words with the top bit set. -/
theorem commandWord?_decodeCommand (w : Word) : (decodeCommand w).commandWord? = some w := by
  have field {op : Byte} (h : cmdOp w = op) : some (cmdWord op (cmdArg w) (cmdLen w)) = some w :=
    congrArg some (Machine.cmdWord_of_cmdOp h)
  have rest {m k : Nat} {w : BitVec (m + k)} {c : BitVec m} (h : w.extractLsb' k m = c) :
      some (c ++ w.extractLsb' 0 k) = some w := congrArg some (append_rest_of_extractLsb' h)
  unfold decodeCommand
  refine commandWord?_ite field fun h0 => ?_
  refine commandWord?_ite field fun h1 => ?_
  refine commandWord?_ite field fun h2 => ?_
  refine commandWord?_ite field fun h3 => ?_
  refine commandWord?_ite field fun h4 => ?_
  refine commandWord?_ite field fun h5 => ?_
  refine commandWord?_ite field fun h6 => ?_
  refine commandWord?_ite (rest (m := 8) (k := 24)) fun h7 => ?_
  refine commandWord?_ite field fun h8 => ?_
  refine commandWord?_ite field fun h9 => ?_
  refine commandWord?_ite (rest (m := 7) (k := 25)) fun hA => ?_
  refine commandWord?_ite (rest (m := 6) (k := 26)) fun hC => ?_
  refine commandWord?_ite (rest (m := 4) (k := 28)) fun h10 => ?_
  refine commandWord?_ite (rest (m := 3) (k := 29)) fun h20 => ?_
  refine commandWord?_ite (rest (m := 2) (k := 30)) fun h40 => ?_
  refine rest (m := 1) (k := 31) ?_
  have hw := w.isLt
  rw [cmdOp, extractLsb'_top_eq_iff (m := 8) (k := 24)] at h0 h1 h2 h3 h4 h5 h6 h7 h8 h9
  rw [extractLsb'_top_eq_iff (m := 7) (k := 25)] at hA
  rw [extractLsb'_top_eq_iff (m := 6) (k := 26)] at hC
  rw [extractLsb'_top_eq_iff (m := 4) (k := 28)] at h10
  rw [extractLsb'_top_eq_iff (m := 3) (k := 29)] at h20
  rw [extractLsb'_top_eq_iff (m := 2) (k := 30)] at h40
  rw [extractLsb'_top_eq_iff (m := 1) (k := 31)]
  simp only [BitVec.reduceToNat, Nat.reducePow] at *
  omega

/-- The command of row `k` with the operands of the word `w`. -/
def instrOfRow (w : Word) : Nat → Option Instr
  | 0 => some (.nop (cmdArg w) (cmdLen w))
  | 1 => some (.scramble (cmdArg w) (cmdLen w))
  | 2 => some (.descramble (cmdArg w) (cmdLen w))
  | 3 => some (.encode (cmdArg w) (cmdLen w))
  | 4 => some (.encodeH (cmdArg w) (cmdLen w))
  | 5 => some (.decode (cmdArg w) (cmdLen w))
  | 6 => some (.copyB2a (cmdArg w) (cmdLen w))
  | 7 => some (.reserved07 (w.extractLsb' 0 24))
  | 8 => some (.txnSend (cmdArg w) (cmdLen w))
  | 9 => some (.txnAck (cmdArg w) (cmdLen w))
  | 10 => some (.reserved0A (w.extractLsb' 0 25))
  | 11 => some (.reserved0C (w.extractLsb' 0 26))
  | 12 => some (.reserved10 (w.extractLsb' 0 28))
  | 13 => some (.reserved20 (w.extractLsb' 0 29))
  | 14 => some (.reserved40 (w.extractLsb' 0 30))
  | 15 => some (.reserved80 (w.extractLsb' 0 31))
  | _ => none

/-- The row and the word determine the command. -/
theorem instrOfRow_of_commandWord? {i : Instr} {w : Word} {k : Nat}
    (h : i.commandWord? = some w) (hk : rowOf i = some k) : instrOfRow w k = some i := by
  cases i <;> cases h <;> cases hk <;>
    simp only [instrOfRow, cmdArg_cmdWord, cmdLen_cmdWord, BitVec.extractLsb'_append_eq_right]

/-- The decoder reads a command's word as that command. -/
theorem decodeCommand_of_commandWord? {i : Instr} {w : Word} (h : i.commandWord? = some w) :
    decodeCommand w = i := by
  have hd := commandWord?_decodeCommand w
  obtain ⟨k, hk, hw⟩ := inRow_of_commandWord? h
  obtain ⟨k', hk', hw'⟩ := inRow_of_commandWord? hd
  obtain rfl := hw.unique hw'
  exact Option.some_inj.mp
    ((instrOfRow_of_commandWord? hd hk').symm.trans (instrOfRow_of_commandWord? h hk))

/-- Settles O3: the row of the command that the decoder answers is the one row of the word. -/
theorem everyWordIsOneCommandRow : Obligations.EveryWordIsOneCommandRow := by
  intro w
  obtain ⟨k, hk, r, hr, hw⟩ := inRow_of_commandWord? (commandWord?_decodeCommand w)
  exact ⟨k, r, hr, hw, hk, fun k' r' hr' hw' => InRow.unique ⟨r', hr', hw'⟩ ⟨r, hr, hw⟩⟩

/-- 30_encoding.md R97: the assembled word is the word of the three fields. -/
theorem assembled_eq_cmdWord (op arg : Byte) (len : Len) :
    assembled op arg len = cmdWord op arg len := by
  have h := BitVec.setWidth_append_append_eq_shiftLeft_setWidth_or (w''' := 32)
    (b := op) (b' := arg) (b'' := len)
  rw [BitVec.setWidth_eq] at h
  exact h.symm

/-- Settles O4: the assembled words are the commands' own words. -/
theorem commandsAssembleAndDecode : Obligations.CommandsAssembleAndDecode := by
  intro arg len
  simp only [assembled_eq_cmdWord]
  exact ⟨decodeCommand_of_commandWord? rfl, decodeCommand_of_commandWord? rfl,
    decodeCommand_of_commandWord? rfl, decodeCommand_of_commandWord? rfl,
    decodeCommand_of_commandWord? rfl, decodeCommand_of_commandWord? rfl,
    decodeCommand_of_commandWord? rfl, decodeCommand_of_commandWord? rfl,
    decodeCommand_of_commandWord? rfl, rfl⟩

end Sys2Proof
end

section
/-! PROOF. Events and operations (30_encoding.md R91, R105, R112; log 2): the encoder and the decoder
are each other's inverse, port by port. Commands go through their word, the packet rows through
`packetInstr`, and host accesses through the bytes of the address, the width and the value. -/

namespace Sys2Proof

/-! ### Command words at CMD -/

theorem encode_of_commandWord? {i : Instr} {w : Word} (h : i.commandWord? = some w) :
    encode i = ⟨.cmd, wordBytes w⟩ := by
  cases i <;> cases h <;> rfl

theorem wellFormed_of_commandWord? {i : Instr} {w : Word} (h : i.commandWord? = some w) :
    i.wellFormed = true := by
  cases i <;> cases h <;> rfl

theorem decode_cmd_wordBytes (w : Word) : decode ⟨.cmd, wordBytes w⟩ = .ok (decodeCommand w) :=
  congrArg (Except.ok ∘ decodeCommand) (wordOfBytes_wordBytes w)

/-! ### Packets at the dispatcher's ports -/

theorem packetInstr_of_not_mem {op : Byte} (h : op ∉ listedOpcodes) (args : List Byte) :
    packetInstr op args = .pktOther op args := by
  simp only [listedOpcodes, List.cons_append, List.nil_append, List.mem_cons, List.not_mem_nil,
    or_false, not_or] at h
  simp only [packetInstr, h, if_false]

theorem encode_packetInstr (op : Byte) (args : List Byte) :
    encode (packetInstr op args) = ⟨.packet, op :: args⟩ := by
  by_cases h : op ∈ listedOpcodes
  · fin_cases h <;> rfl
  · rw [packetInstr_of_not_mem h]; rfl

theorem wellFormed_packetInstr (op : Byte) (args : List Byte) :
    (packetInstr op args).wellFormed = packetFits args := by
  by_cases h : op ∈ listedOpcodes
  · fin_cases h <;> rfl
  · rw [packetInstr_of_not_mem h]; simp [Instr.wellFormed, h]

theorem packetFits_of_wellFormed {i : Instr} {op : Byte} {args : List Byte}
    (h : i.packet? = some (op, args)) (hw : i.wellFormed = true) : packetFits args = true := by
  cases i <;> cases h
  case pktOther => exact ((Bool.and_eq_true _ _).mp hw).1
  all_goals exact hw

/-- A well-formed operation of the dispatcher is DISPATCH or the row of its packet: the row "any other"
takes no listed opcode (30_encoding.md R108). -/
theorem eq_dispatch_or_packetInstr {i : Instr} {op : Byte} {args : List Byte}
    (h : i.packet? = some (op, args)) (hw : i.wellFormed = true) :
    i = .dispatch op args ∨ i = packetInstr op args := by
  cases i <;> cases h
  case dispatch => exact .inl rfl
  case pktOther =>
    simp only [Instr.wellFormed, Bool.and_eq_true, Bool.not_eq_true', List.contains_eq_mem,
      decide_eq_false_iff_not] at hw
    exact .inr (packetInstr_of_not_mem hw.2 args).symm
  all_goals exact .inr rfl

/-- Bytes that are a packet are its opcode and its arguments (43_correlator.md R211). -/
theorem decodePacket_eq_ok_iff {mk : Byte → List Byte → Instr} {bs : List Byte} {i : Instr} :
    decodePacket mk bs = .ok i ↔
      ∃ op args, bs = op :: args ∧ packetFits args = true ∧ mk op args = i := by
  cases bs with
  | nil => simp [decodePacket]
  | cons op args => by_cases hf : packetFits args = true <;> simp [decodePacket, hf]

/-! ### Host accesses -/

/-- A 1-byte value is its low byte. -/
theorem setWidth_extractLsb'_of_lt {v : Word} (h : v.toNat < 256) :
    (v.extractLsb' 0 8).setWidth 32 = v := by
  apply BitVec.eq_of_toNat_eq
  simp only [BitVec.toNat_setWidth, BitVec.extractLsb'_toNat, Nat.shiftRight_zero]
  omega

theorem extractLsb'_setWidth_byte (b : Byte) : (b.setWidth 32).extractLsb' 0 8 = b := by
  rw [BitVec.extractLsb'_setWidth_of_le (by decide), BitVec.extractLsb'_eq_self]

theorem decode_encode_memRead (addr : Addr) (n : Width) :
    decode (encode (.memRead addr n)) = .ok (.memRead addr n) := by
  cases n <;> exact congrArg (fun a => Except.ok (Instr.memRead a _)) (addrOfBytes_addrBytes addr)

theorem decode_encode_memWrite (addr : Addr) (n : Width) (v : Word)
    (hw : (Instr.memWrite addr n v).wellFormed = true) :
    decode (encode (.memWrite addr n v)) = .ok (.memWrite addr n v) := by
  cases n with
  | byte =>
    have hv := setWidth_extractLsb'_of_lt (of_decide_eq_true hw)
    exact congrArg₂ (fun a v => Except.ok (Instr.memWrite a .byte v)) (addrOfBytes_addrBytes addr) hv
  | word =>
    exact congrArg₂ (fun a v => Except.ok (Instr.memWrite a .word v)) (addrOfBytes_addrBytes addr)
      (wordOfBytes_wordBytes v)

theorem encode_memRead_addrOfBytes (lo hi : Byte) (n : Width) :
    encode (.memRead (addrOfBytes lo hi) n) = ⟨.memRead, [lo, hi, widthCode n]⟩ := by
  simp [encode, addrBytes_addrOfBytes]

theorem encode_memWrite_addrOfBytes (lo hi : Byte) (n : Width) (v : Word) :
    encode (.memWrite (addrOfBytes lo hi) n v) =
      ⟨.memWrite, lo :: hi :: widthCode n :: valueBytes n v⟩ := by
  simp [encode, addrBytes_addrOfBytes]

theorem encode_of_decodeMemRead {bs : List Byte} {i : Instr} (h : decodeMemRead bs = .ok i) :
    i.wellFormed = true ∧ encode i = ⟨.memRead, bs⟩ := by
  unfold decodeMemRead at h
  split at h
  next lo hi n =>
    split_ifs at h with h1 h4 <;> cases h
    · exact ⟨rfl, h1 ▸ encode_memRead_addrOfBytes lo hi .byte⟩
    · exact ⟨rfl, h4 ▸ encode_memRead_addrOfBytes lo hi .word⟩
  next => cases h

theorem encode_of_decodeMemWrite {bs : List Byte} {i : Instr} (h : decodeMemWrite bs = .ok i) :
    i.wellFormed = true ∧ encode i = ⟨.memWrite, bs⟩ := by
  unfold decodeMemWrite at h
  split at h
  next lo hi n v =>
    split_ifs at h with h1 h4
    · split at h <;> cases h
      next b =>
      refine ⟨decide_eq_true ?_, ?_⟩
      · exact (BitVec.toNat_setWidth_of_le (by decide)).trans_lt b.isLt
      · rw [encode_memWrite_addrOfBytes, valueBytes, extractLsb'_setWidth_byte, h1, widthCode]
    · split at h <;> cases h
      next b0 b1 b2 b3 =>
      refine ⟨rfl, ?_⟩
      rw [encode_memWrite_addrOfBytes, valueBytes, wordBytes_wordOfBytes, h4, widthCode]
  next => cases h

/-! ### The two directions -/

/-- The operations that are neither a command nor a packet: each has a port of its own. -/
theorem decode_encode_of_own_port {i : Instr} (hc : i.commandWord? = none) (hp : i.packet? = none)
    (hw : i.wellFormed = true) : decode (encode i) = .ok i := by
  cases i <;> cases hc <;> cases hp
  case rxByte | timeout | reset => rfl
  case memRead addr n => exact decode_encode_memRead addr n
  case memWrite addr n v => exact decode_encode_memWrite addr n v hw

/-- Settles O1, by the kind of operation: a command, a packet, or an event with a port of its own. -/
theorem decodeOfEncodeIsIdentity : Obligations.DecodeOfEncodeIsIdentity := by
  intro i hw
  cases hc : i.commandWord? with
  | some w =>
    rw [encode_of_commandWord? hc, decode_cmd_wordBytes, decodeCommand_of_commandWord? hc]
  | none =>
    cases hp : i.packet? with
    | some p =>
      obtain ⟨op, args⟩ := p
      have hf := packetFits_of_wellFormed hp hw
      obtain rfl | rfl := eq_dispatch_or_packetInstr hp hw
      · exact decodePacket_eq_ok_iff.mpr ⟨op, args, rfl, hf, rfl⟩
      · rw [encode_packetInstr]
        exact decodePacket_eq_ok_iff.mpr ⟨op, args, rfl, hf, rfl⟩
    | none => exact decode_encode_of_own_port hc hp hw

/-- Settles O2, by the port of the event. -/
theorem encodeOfDecodeIsIdentity : Obligations.EncodeOfDecodeIsIdentity := by
  rintro ⟨port, bytes⟩ i h
  cases port <;> simp only [decode] at h
  case cmd =>
    split at h <;> cases h
    next b0 b1 b2 b3 =>
    have hc := commandWord?_decodeCommand (wordOfBytes b0 b1 b2 b3)
    refine ⟨wellFormed_of_commandWord? hc, ?_⟩
    rw [encode_of_commandWord? hc, wordBytes_wordOfBytes]
  case rx | timeout | reset =>
    split at h <;> cases h
    exact ⟨rfl, rfl⟩
  case dispatch =>
    obtain ⟨op, args, rfl, hf, rfl⟩ := decodePacket_eq_ok_iff.mp h
    exact ⟨hf, rfl⟩
  case packet =>
    obtain ⟨op, args, rfl, hf, rfl⟩ := decodePacket_eq_ok_iff.mp h
    exact ⟨wellFormed_packetInstr op args ▸ hf, encode_packetInstr op args⟩
  case memRead => exact encode_of_decodeMemRead h
  case memWrite => exact encode_of_decodeMemWrite h

/-! ### The words of the opcode table -/

/-- A 32-bit table word is read as the command with that word (log 10). -/
theorem decodeTableWord_command {w : Nat} {i : Instr}
    (h : i.commandWord? = some (BitVec.ofNat 32 w)) : decodeTableWord 32 w = some i := by
  rw [decodeTableWord_eq_some_iff, ← decodeCommand_of_commandWord? h]
  exact decode_cmd_wordBytes _

/-- An 8-bit table word is read as the packet of that one opcode byte (log 10). -/
theorem decodeTableWord_packet (op : Nat) :
    decodeTableWord 8 op = some (packetInstr (BitVec.ofNat 8 op) []) := rfl

/-- Settles O5: each 32-bit word is its command's own word, each 8-bit word falls in its packet row. -/
theorem tableWordsDecode : Obligations.TableWordsDecode := by
  refine ⟨?_, ?_, ?_, ?_, ?_, ?_, ?_, ?_, ?_, ?_, ?_, ?_, ?_, ?_, ?_⟩
  iterate 12 exact decodeTableWord_command rfl
  iterate 3 exact decodeTableWord_packet _

end Sys2Proof
end

section
/-! PROOF. Draws, categories and the packet rows (30_encoding.md R105, R108, R115). -/

open Sys2Proof.Form

namespace Sys2Proof.Machine

/-! ### Draws (log 6) -/

theorem draw_of_cons {s : State} {d : Byte} {rest : List Byte} (h : s.entropyIn = d :: rest) :
    s.draw = d ∧ s.afterDraw = { s with entropyIn := rest } := by
  simp [State.draw, State.afterDraw, h]

theorem draw_of_nil {s : State} (h : s.entropyIn = []) :
    s.draw = Config.freeDraw s.drawCount ∧ s.afterDraw = { s with drawCount := s.drawCount + 1 } := by
  simp [State.draw, State.afterDraw, h]

/-- Settles O7: the two cases of the queue of the random source. -/
theorem drawTakesTheNextEntropyByte : Obligations.DrawTakesTheNextEntropyByte :=
  ⟨fun _ _ _ => draw_of_cons, fun _ => draw_of_nil⟩

/-! ### Categories -/

/-- Settles O34: row by row the model's comparisons are the table's. -/
theorem everyOpcodeHasItsCategory : Obligations.EveryOpcodeHasItsCategory := by
  intro op
  simp only [category, apply_ite Category.code, apply_ite BitVec.toNat]
  rfl

theorem category_of_not_mem {op : Byte} (h : op ∉ listedOpcodes) : category op = .unknown := by
  simp only [listedOpcodes, List.cons_append, List.nil_append, List.mem_cons, List.not_mem_nil,
    or_false, not_or] at h
  simp only [category, controlOpcodes, fwUpdateOpcodes, List.mem_cons, List.not_mem_nil, or_self, h,
    if_false]

/-! ### Packet rows -/

/-- While no transaction waits, a packet is unsolicited (43_correlator.md R217). -/
theorem dispatchPacket_of_not_waiting {s : State} (hs : s.txcState = .idle ∨ s.txcState = .done)
    (op : Byte) (args : List Byte) :
    s.dispatchPacket op args = s.pktEmit (category op) (op :: args) := by
  obtain hs | hs := hs <;> simp [State.dispatchPacket, State.waiting, hs]

/-- The packet's row while no transaction waits: the packet goes out with its category. -/
theorem exec_packet_of_not_waiting {i : Instr} {op : Byte} {args : List Byte} {c : Category}
    {s : State} (hs : s.txcState = .idle ∨ s.txcState = .done) (hi : i.packet? = some (op, args))
    (hc : category op = c) :
    exec i s = .next { s with pktOut := s.pktOut ++ [⟨c, op :: args⟩] } := by
  rw [exec_of_packet s hi, dispatchPacket_of_not_waiting hs, hc]
  rfl

/-- Settles O35: in every state a packet's row is the dispatch of its packet, and while no transaction
waits it goes out with the category of its opcode. -/
theorem packetOpcodeRows : Obligations.PacketOpcodeRows := by
  refine ⟨fun i op args s hi => ⟨_, exec_of_packet s hi, exec_of_packet s rfl⟩, fun args s hs => ?_⟩
  have row {i : Instr} {op : Byte} {c : Category} (hi : i.packet? = some (op, args))
      (hc : category op = c) := exec_packet_of_not_waiting hs hi hc
  exact ⟨row rfl rfl, row rfl rfl, row rfl rfl, row rfl rfl, row rfl rfl, row rfl rfl, row rfl rfl,
    row rfl rfl, row rfl rfl, row rfl rfl, row rfl rfl, row rfl rfl, row rfl rfl, row rfl rfl,
    row rfl rfl, row rfl rfl, row rfl rfl, row rfl rfl, row rfl rfl, row rfl rfl, row rfl rfl,
    row rfl rfl, row rfl rfl, row rfl rfl, row rfl rfl,
    fun op hop => row rfl (category_of_not_mem hop)⟩

end Sys2Proof.Machine
end

section
/-! PROOF. The shape of a wire frame (30_encoding.md R99 to R101), by the structure of the escaped
bytes. -/

open Sys2Proof.Form

namespace Sys2Proof.Machine

/-- The checksum is the sum of the bytes mod 256 (00_scope.md R18). -/
theorem sum8_eq_byteSum (xs : List Byte) : sum8 xs = byteSum xs := by
  induction xs with
  | nil => rfl
  | cons x xs ih =>
    rw [sum8_cons, ih, byteSum, byteSum, List.map_cons, List.sum_cons, BitVec.ofNat_add,
      BitVec.ofNat_toNat, BitVec.setWidth_eq]

/-- One byte of the sequence, and one more for each that needs a pair. -/
theorem length_escAll (xs : List Byte) :
    (escAll xs).length = xs.length + xs.countP fun x => x = FLAG1 ∨ x = ESC := by
  induction xs with
  | nil => rfl
  | cons x xs ih =>
    rw [escAll_cons, List.length_append, length_esc, ih, List.countP_cons, List.length_cons]
    simp only [decide_eq_true_eq]
    split <;> omega

/-- The bytes that need a pair are those that E escapes (30_encoding.md R100, R101). -/
theorem escapes_eq_countP (h p : List Byte) :
    escapes h p = (h ++ p ++ [byteSum (h ++ p)]).countP fun x => x = FLAG1 ∨ x = ESC := rfl

/-- The data and the checksum are escaped alike: a frame is its markers around one escaped region. -/
theorem frame_eq_escAll (h p : List Byte) :
    frame h p = [0x7E, 0x7E, 0xFF] ++ escAll (h ++ p ++ [byteSum (h ++ p)]) ++ [0x7E] := by
  rw [frame, sum8_eq_byteSum, escAll_append (h ++ p)]
  simp [FLAG1, FLAG2]

/-- In escaped bytes 0x7D begins a pair (30_encoding.md R100). -/
theorem escAll_pair {xs : List Byte} {j : Nat} (h : (escAll xs)[j]? = some ESC) :
    (escAll xs)[j + 1]? = some FLAG1_ESC ∨ (escAll xs)[j + 1]? = some ESC_ESC := by
  induction xs generalizing j with
  | nil => simp at h
  | cons x xs ih =>
    rw [escAll_cons] at h ⊢
    obtain ⟨-, e⟩ | ⟨-, e⟩ | ⟨-, hx, e⟩ := esc_cases x <;> rw [e] at h ⊢
    · match j with
      | 0 => exact .inl rfl
      | 1 => exact absurd (Option.some_inj.mp h : FLAG1_ESC = ESC) (by decide)
      | j + 2 => exact ih h
    · match j with
      | 0 => exact .inr rfl
      | 1 => exact absurd (Option.some_inj.mp h : ESC_ESC = ESC) (by decide)
      | j + 2 => exact ih h
    · match j with
      | 0 => exact absurd (Option.some_inj.mp h) hx
      | j + 1 => exact ih h

/-- Settles O19: the region is the escaped header, payload and checksum. -/
theorem wireFrameShape : Obligations.WireFrameShape := by
  intro h p f hf
  obtain ⟨he, -⟩ | ⟨he, -⟩ | ⟨he, -⟩ := enc_cases h p <;> rw [he] at hf <;> cases hf
  rw [frame_eq_escAll]
  refine ⟨?_, _, rfl, flag1_not_mem_escAll _, fun j => escAll_pair⟩
  simp only [List.length_append, length_escAll, List.length_cons, List.length_nil,
    escapes_eq_countP]
  omega

end Sys2Proof.Machine
end

section
/-! PROOF. The scrambler (40_scrambler.md R120 to R126): the laws of the key stream and of scr, then
SCRAMBLE, DESCRAMBLE and COPY_B2A with one equation per side of the length check, and from these the
round trip of the three commands. -/

open Sys2Proof.Form

namespace Sys2Proof.Machine

/-! ### The key stream (R120, R126) -/

theorem keyByte_eq_keyAt (key : Vector Byte Config.KEY_LEN) (seed : Byte) (i : Nat) :
    keyByte key seed i = keyAt key seed i := rfl

theorem keyByte_eq_of_kidx_eq (key : Vector Byte Config.KEY_LEN) {s t : Byte} {i j : Nat}
    (h : kidx s i = kidx t j) : keyByte key s i = keyByte key t j :=
  getElem_congr_idx h

/-- The key index depends on the seed modulo 64 only. -/
theorem kidx_eq_of_mod_eq {s t : Byte} (h : s.toNat % 64 = t.toNat % 64) (i : Nat) :
    kidx s i = kidx t i :=
  Nat.ModEq.add_right i h

theorem kidx_add_period (seed : Byte) (i : Nat) : kidx seed (i + 64) = kidx seed i := by
  rw [kidx, ← Nat.add_assoc, Nat.add_mod_right, kidx]

theorem seed_mod_eq (seed : Byte) :
    (BitVec.ofNat 8 (seed.toNat % 64)).toNat % 64 = seed.toNat % 64 := by
  rw [BitVec.toNat_ofNat]
  omega

theorem seed_add_period_mod (seed : Byte) : (seed + 64).toNat % 64 = seed.toNat % 64 := by
  have h := BitVec.toNat_add seed 64
  have : (64 : Byte).toNat = 64 := rfl
  omega

/-! ### scr (R121, R124) -/

/-- Seeds that agree modulo 64 scramble every sequence alike. -/
theorem scr_eq_of_mod_eq (key : Vector Byte Config.KEY_LEN) (xs : List Byte) {s t : Byte}
    (h : s.toNat % 64 = t.toNat % 64) : scr key xs s = scr key xs t := by
  refine List.ext_getElem (by simp only [length_scr]) fun i _ _ => ?_
  rw [scr_getElem, scr_getElem, keyByte_eq_of_kidx_eq key (kidx_eq_of_mod_eq h i)]

/-- Settles O12: each byte meets the same key byte twice, and XOR with it cancels. -/
theorem scramblingTwiceRestores : Obligations.ScramblingTwiceRestores := by
  intro key xs seed
  refine List.ext_getElem (by simp only [length_scr]) fun i _ _ => ?_
  rw [scr_getElem, scr_getElem, BitVec.xor_assoc, BitVec.xor_self, BitVec.xor_zero]

/-- Settles O13: every form of the period is a congruence modulo 64 of the seed or of the index. -/
theorem keyStreamIsPeriodic : Obligations.KeyStreamIsPeriodic := fun key seed i xs =>
  ⟨(kidx_eq_of_mod_eq (seed_mod_eq seed) i).symm,
    keyByte_eq_of_kidx_eq key (kidx_add_period seed i),
    scr_eq_of_mod_eq key xs (seed_add_period_mod seed),
    (scr_eq_of_mod_eq key xs (seed_mod_eq seed)).symm⟩

/-! ### Seeds (R125) -/

/-- The seven bits kept of a draw, in SEED and as the seed byte. -/
theorem seedOfDraw_setWidth (d : Byte) : (seedOfDraw d).setWidth 7 = d.setWidth 7 := by
  rw [seedOfDraw, BitVec.setWidth_and]
  exact BitVec.and_allOnes

/-- SEED read back as a byte is the seed byte of the draw: nothing of it is lost. -/
theorem setWidth_seven_setWidth_byte (d : Byte) : (d.setWidth 7).setWidth 8 = seedOfDraw d := by
  apply BitVec.eq_of_toNat_eq
  rw [BitVec.toNat_setWidth_of_le (by decide), BitVec.toNat_setWidth, seedOfDraw, BitVec.toNat_and]
  exact (Nat.and_two_pow_sub_one_eq_mod d.toNat 7).symm

/-- A draw does not read or write CMD. -/
theorem afterDraw_issue (s : State) (w : Word) : (s.issue w).afterDraw = s.afterDraw.issue w := by
  cases h : s.entropyIn with
  | nil => rw [(draw_of_nil h).2, (draw_of_nil (s := s.issue w) h).2]; rfl
  | cons d rest => rw [(draw_of_cons h).2, (draw_of_cons (s := s.issue w) h).2]; rfl

/-! ### Scrambled output -/

/-- LEN bytes of a buffer, when it holds as many. -/
theorem length_slice_of_le (v : Vector Byte 1024) {k : Nat} (hk : k ≤ 1024) :
    (slice v k).length = k := by
  rw [length_slice, Nat.min_eq_left hk]

theorem length_scr_slice_of_le (key : Vector Byte Config.KEY_LEN) (seed : Byte)
    (v : Vector Byte 1024) {k : Nat} (hk : k ≤ 1024) : (scr key (slice v k) seed).length = k := by
  rw [length_scr, length_slice_of_le v hk]

/-- A command's output of LEN bytes: OUT_LEN is LEN. -/
theorem putOut_of_length_eq (s : State) {xs : List Byte} {len : Len} (h : xs.length = len.toNat) :
    s.putOut xs = { s with b := writeFront s.b xs, outLen := len.setWidth 11 } := by
  rw [State.putOut, h, BitVec.ofNat_toNat]

/-- Writing a slice of `a` over `b`: the bytes of `a` below its length, those of `b` from there on. -/
theorem writeFront_slice_getElem (a b : Vector Byte 1024) {k : Nat} (hk : k ≤ 1024) (i : Nat)
    (hi : i < 1024) : (writeFront b (slice a k))[i] = if i < k then a[i] else b[i] := by
  simp only [writeFront_getElem, slice_getElem, length_slice_of_le a hk]
  rfl

/-- Writing a scrambled slice of `a` over `b`, element by element. -/
theorem writeFront_scr_slice_getElem (key : Vector Byte 64) (seed : Byte) (a b : Vector Byte 1024)
    {k : Nat} (hk : k ≤ 1024) (i : Nat) (hi : i < 1024) :
    (writeFront b (scr key (slice a k) seed))[i] =
      if i < k then a[i] ^^^ keyAt key seed i else b[i] := by
  simp only [writeFront_getElem, scr_getElem, slice_getElem, keyByte_eq_keyAt,
    length_scr_slice_of_le key seed a hk]
  rfl

/-! ### SCRAMBLE, DESCRAMBLE and COPY_B2A, on each side of the length check -/

section
variable {arg : Byte} {len : Len} {s : State}

theorem exec_scramble_of_le (h : len.toNat ≤ 1024) :
    exec (.scramble arg len) s = .next { s.afterDraw with
      cmd := cmdWord 0x01 arg len
      b := writeFront s.b (scr s.params.key (slice s.a len.toNat) (seedOfDraw s.draw))
      outLen := len.setWidth 11, seed := s.draw.setWidth 7, status := OK } := by
  calc exec (.scramble arg len) s
    _ = .next (State.setStatus { (s.issue (cmdWord 0x01 arg len)).afterDraw.putOut
          (scr s.params.key (slice s.a len.toNat) (seedOfDraw s.draw)) with
          seed := (seedOfDraw s.draw).setWidth 7 } OK) := if_neg (Nat.not_lt.mpr h)
    _ = _ := by
      rw [afterDraw_issue, putOut_of_length_eq _ (length_scr_slice_of_le _ _ _ h),
        seedOfDraw_setWidth, issue_b, afterDraw_b]
      rfl

theorem exec_scramble_of_gt (h : 1024 < len.toNat) :
    exec (.scramble arg len) s = .next { s with cmd := cmdWord 0x01 arg len, status := ERR_LEN } :=
  if_pos h

theorem exec_descramble_of_le (h : len.toNat ≤ 1024) :
    exec (.descramble arg len) s = .next { s with
      cmd := cmdWord 0x02 arg len
      b := writeFront s.b (scr s.params.key (slice s.a len.toNat) arg)
      outLen := len.setWidth 11, status := OK } := by
  calc exec (.descramble arg len) s
    _ = .next (((s.issue (cmdWord 0x02 arg len)).putOut
          (scr s.params.key (slice s.a len.toNat) arg)).setStatus OK) := if_neg (Nat.not_lt.mpr h)
    _ = _ := by
      rw [putOut_of_length_eq _ (length_scr_slice_of_le _ _ _ h)]
      rfl

theorem exec_descramble_of_gt (h : 1024 < len.toNat) :
    exec (.descramble arg len) s = .next { s with cmd := cmdWord 0x02 arg len, status := ERR_LEN } :=
  if_pos h

theorem exec_copyB2a_of_le (h : len.toNat ≤ 1024) :
    exec (.copyB2a arg len) s = .next { s with
      cmd := cmdWord 0x06 arg len, a := writeFront s.a (slice s.b len.toNat)
      outLen := len.setWidth 11, status := OK } := by
  rw [← BitVec.ofNat_toNat]
  exact if_neg (Nat.not_lt.mpr h)

end

/-- A command that answers a next state hands it to the rest of the program. -/
theorem runInstrs_cons_of_next {i : Instr} {s t : State} (h : exec i s = .next t)
    (is : List Instr) : runInstrs (i :: is) s = runInstrs is t := by
  rw [runInstrs, h]

/-! ### The obligations -/

/-- Settles O10: the two sides of the length check, and the output byte by byte. -/
theorem scrambleResult : Obligations.ScrambleResult := by
  intro arg len s
  rw [assembled_eq_cmdWord]
  exact ⟨fun h => ⟨_, exec_scramble_of_le h, writeFront_scr_slice_getElem _ _ _ _ h⟩,
    exec_scramble_of_gt⟩

/-- Settles O11: the two sides of the length check, and the output byte by byte. -/
theorem descrambleResult : Obligations.DescrambleResult := by
  intro seed len s
  rw [assembled_eq_cmdWord]
  exact ⟨fun h => ⟨_, exec_descramble_of_le h, writeFront_scr_slice_getElem _ _ _ _ h⟩,
    exec_descramble_of_gt⟩

/-- What a write of LEN bytes put into B is what COPY_B2A puts into A. -/
theorem slice_writeFront_slice_writeFront (a b : Vector Byte 1024) {xs : List Byte} {k : Nat}
    (hx : xs.length = k) (hk : k ≤ 1024) :
    slice (writeFront a (slice (writeFront b xs) k)) k = xs := by
  subst hx
  rw [slice_writeFront b xs hk, slice_writeFront a xs hk]

/-- Settles O14: A holds the scrambled bytes when DESCRAMBLE runs, and SEED is the seed byte they were
scrambled with, so scrambling them again gives the first bytes of A back. -/
theorem descrambleUndoesScramble : Obligations.DescrambleUndoesScramble := by
  intro arg arg' len s t hlen ht
  obtain rfl := Host.Outcome.next.inj (ht.symm.trans (exec_scramble_of_le hlen))
  refine ⟨_, (runInstrs_cons_of_next (exec_copyB2a_of_le hlen) _).trans
    (runInstrs_cons_of_next (exec_descramble_of_le hlen) _), rfl, rfl, fun i hi hl => ?_⟩
  have hx := length_scr_slice_of_le s.params.key (seedOfDraw s.draw) s.a hlen
  simp only [afterDraw_params, afterDraw_a, setWidth_seven_setWidth_byte,
    slice_writeFront_slice_writeFront _ _ hx hlen, scramblingTwiceRestores _ _ _,
    writeFront_slice_getElem _ _ hlen, if_pos hl]

end Sys2Proof.Machine
end

section
/-! PROOF. The encoder (41_frame_codec.md R143, R144): the plain wire frame is the machine's, its length
counts the bytes that need a pair, and ENC_CAP is a bound on that length. -/

open Sys2Proof.Form

namespace Sys2Proof.Machine

/-- The escape map E of each byte, in order (R140). -/
theorem escAll_eq_flatMap (xs : List Byte) : escAll xs = xs.flatMap wireForm := by
  induction xs with
  | nil => rfl
  | cons x xs ih => rw [escAll_cons, ih, List.flatMap_cons]; rfl

/-- Data and checksum are escaped alike: one escaped region between the markers. -/
theorem frameWithSum_eq_escAll (d : List Byte) (c : Byte) :
    frameWithSum d c = [0x7E, 0x7E, 0xFF] ++ escAll (d ++ [c]) ++ [0x7E] := by
  simp [frameWithSum, escAll_eq_flatMap]

theorem frame_eq_frameWithSum (h p : List Byte) :
    frame h p = frameWithSum (h ++ p) (byteSum (h ++ p)) := by
  rw [frame_eq_escAll, frameWithSum_eq_escAll]

/-- The machine's frame is the spec's (30_encoding.md R99). -/
theorem frame_eq_wireFrame (h p : List Byte) : frame h p = wireFrame h p :=
  frame_eq_frameWithSum h p

/-- 30_encoding.md R101: five bytes of markers and checksum, the data, and one more for each pair. -/
theorem length_wireFrame (h p : List Byte) :
    (wireFrame h p).length = 5 + h.length + p.length + escapes h p := by
  rw [← frame_eq_wireFrame, frame_eq_escAll, escapes_eq_countP]
  simp only [List.length_append, length_escAll, List.length_cons, List.length_nil]
  omega

/-- At most every header, payload and checksum byte needs a pair. -/
theorem escapes_le (h p : List Byte) : escapes h p ≤ h.length + p.length + 1 :=
  List.countP_le_length.trans_eq (by simp only [List.length_append, List.length_singleton])

theorem enc_of_length_le {h p : List Byte} (hp : p.length ≤ 256)
    (hf : (wireFrame h p).length ≤ 516 + 2 * h.length) : enc h p = .ok (wireFrame h p) := by
  rw [← frame_eq_wireFrame] at hf ⊢
  obtain ⟨-, h1⟩ | ⟨-, -, h1⟩ | ⟨he, -⟩ := enc_cases h p
  · omega
  · simp only [encCap, Config.MAX_PAYLOAD] at h1
    omega
  · exact he

theorem enc_of_lt_length {h p : List Byte} (hp : p.length ≤ 256)
    (hf : 516 + 2 * h.length < (wireFrame h p).length) : enc h p = .error .encOverflow := by
  rw [← frame_eq_wireFrame] at hf
  obtain ⟨-, h1⟩ | ⟨he, -⟩ | ⟨-, -, h1⟩ := enc_cases h p
  · omega
  · exact he
  · simp only [encCap, Config.MAX_PAYLOAD] at h1
    omega

/-- What the encoder answers, it answers as the plain wire frame. -/
theorem eq_wireFrame_of_enc_ok {h p f : List Byte} (he : enc h p = .ok f) : f = wireFrame h p := by
  obtain ⟨h1, -⟩ | ⟨h1, -⟩ | ⟨h1, -⟩ := enc_cases h p <;> rw [h1] at he <;> cases he
  exact frame_eq_wireFrame h p

/-- The longest frame that does not fit without a header (R144). -/
theorem length_wireFrame_flag1s : (wireFrame [] (List.replicate 256 0x7E)).length = 517 := by
  decide +kernel

/-- A frame of exactly ENC_CAP(1) bytes (R144). -/
theorem length_wireFrame_zero_flag1s :
    (wireFrame [0x00] (List.replicate 256 0x7E)).length = 518 := by
  decide +kernel

/-- Settles O18: each bound is arithmetic on the frame's length, and so are the two examples. -/
theorem encoderOverflowsExactlyPastCapacity : Obligations.EncoderOverflowsExactlyPastCapacity := by
  refine ⟨fun h p _ hp => ?_,
    enc_of_lt_length List.length_replicate.le (by rw [length_wireFrame_flag1s]; decide),
    length_wireFrame_flag1s,
    enc_of_length_le List.length_replicate.le length_wireFrame_zero_flag1s.le,
    length_wireFrame_zero_flag1s⟩
  have hl := length_wireFrame h p
  have he := escapes_le h p
  exact ⟨fun ho => enc_of_lt_length hp (by omega), fun hf => enc_of_length_le hp (by omega),
    by omega⟩

end Sys2Proof.Machine
end

section
/-! PROOF. The decoder on the frames that are met (41_frame_codec.md R155 to R158): a marker at index 0
or 1, an escaped region, its terminator. Unescaping inverts E, so such a frame decodes to its data
exactly when the checksum is their sum. -/

open Sys2Proof.Form

namespace Sys2Proof.Machine

/-! ### Locating the region (R146, R147) -/

/-- Once the marker is found, the first FLAG1 after it ends the region. -/
theorem dec_of_afterMarker {f region tail : List Byte} (hl : 4 < f.length)
    (hm : afterMarker (f.length - 4) f = some (region ++ FLAG1 :: tail)) (hr : region ≠ [])
    (h1 : FLAG1 ∉ region) : dec f = decRegion region := by
  rw [dec, if_neg (Nat.not_le.mpr hl), hm]
  obtain ⟨x, xs, rfl⟩ := List.exists_cons_of_ne_nil hr
  simp only [beforeFlag1_append _ tail h1]

/-- A reassembled frame: the pair at index 0 (30_encoding.md R102). -/
theorem dec_reassembled {region : List Byte} (tail : List Byte) (hr : 2 ≤ region.length)
    (h1 : FLAG1 ∉ region) :
    dec (FLAG1 :: FLAG2 :: (region ++ FLAG1 :: tail)) = decRegion region := by
  have hl : (FLAG1 :: FLAG2 :: (region ++ FLAG1 :: tail)).length =
      region.length + tail.length + 3 := by
    simp only [List.length_cons, List.length_append]
    omega
  obtain ⟨n, hn⟩ : ∃ n, region.length + tail.length + 3 - 4 = n + 1 :=
    Nat.exists_eq_add_of_le' (by omega)
  refine dec_of_afterMarker (tail := tail) (by omega) ?_ (List.ne_nil_of_length_pos (by omega)) h1
  rw [hl, hn]
  exact if_pos ⟨rfl, rfl⟩

/-- A wire frame from the encoder: the pair at index 1 (30_encoding.md R99). -/
theorem dec_wire {region : List Byte} (hr : 2 ≤ region.length) (h1 : FLAG1 ∉ region) :
    dec ([0x7E, 0x7E, 0xFF] ++ region ++ [0x7E]) = decRegion region := by
  have hl : ([0x7E, 0x7E, 0xFF] ++ region ++ [0x7E] : List Byte).length = region.length + 4 := by
    simp only [List.length_cons, List.length_append, List.length_nil]
    omega
  obtain ⟨n, hn⟩ : ∃ n, region.length = n + 2 := Nat.exists_eq_add_of_le' hr
  refine dec_of_afterMarker (tail := []) (by omega) ?_ (List.ne_nil_of_length_pos (by omega)) h1
  rw [hl, hn, List.append_assoc]
  exact (if_neg (by decide)).trans (if_pos ⟨rfl, rfl⟩)

/-- Settles O25: with and without the tail, the frame decodes as its region does. -/
theorem bytesAfterTheTerminatorAreIgnored : Obligations.BytesAfterTheTerminatorAreIgnored := by
  intro region tail hr h1
  simp only [List.append_assoc]
  exact (dec_reassembled tail hr h1).trans (dec_reassembled [] hr h1).symm

/-! ### Unescaping and the checksum (R148, R149) -/

/-- Unescaping inverts E (R155). -/
theorem unescape_escAll (xs : List Byte) : unescape (escAll xs) = .ok xs := by
  induction xs with
  | nil => rfl
  | cons x xs ih => rw [escAll_cons, unescape_esc_append, ih]; rfl

/-- An escaped region decodes to its data, if its last byte is their sum. -/
theorem decRegion_escAll (d : List Byte) (c : Byte) :
    decRegion (escAll (d ++ [c])) =
      if byteSum d = c then .ok d else .error .checksumMismatch := by
  simp [decRegion, unescape_escAll, validate, sum8_eq_byteSum, List.getLastD_eq_getLast?]

/-- R149: the frame of data with a checksum of its own decodes exactly when that is their sum. -/
theorem dec_frameWithSum {d : List Byte} (hd : d ≠ []) (c : Byte) :
    dec (frameWithSum d c) = if byteSum d = c then .ok d else .error .checksumMismatch := by
  have hlen := length_escAll_ge (d ++ [c])
  have hpos := List.length_pos_of_ne_nil hd
  rw [List.length_append, List.length_singleton] at hlen
  rw [frameWithSum_eq_escAll, dec_wire (by omega) (flag1_not_mem_escAll _), decRegion_escAll]

/-! ### The laws of the codec (R155, R156) -/

/-- Settles O20: the frame carries the sum of its data as checksum, so it decodes to the data. -/
theorem decodingAFrameRestoresItsBytes : Obligations.DecodingAFrameRestoresItsBytes := by
  intro h p f _ hpos _ he
  rw [eq_wireFrame_of_enc_ok he, ← frame_eq_wireFrame, frame_eq_frameWithSum,
    dec_frameWithSum (List.ne_nil_of_length_pos hpos), if_pos rfl]

/-- 42_reassembler.md R186: a terminator before length 4 starts a frame. -/
theorem exec_rxByte_flag1_of_short {s : State} (hw : s.rsmState = .waitTerminator)
    (hl : s.rsmLen.toNat < 4) : exec (.rxByte FLAG1) s = .next s.startFrame := by
  calc exec (.rxByte FLAG1) s
    _ = rxWaitTerminator FLAG1 s := by rw [exec, execRxByte, hw]
    _ = .next s.startFrame := if_pos ⟨rfl, hl⟩

/-- Settles O21: the empty frame is evaluated; any other has a byte of data more, and decodes by
the round trip. -/
theorem emptyFrameDoesNotDecode : Obligations.EmptyFrameDoesNotDecode := by
  refine ⟨by decide, by decide, fun h p f hh hd he => ⟨?_, h ++ p, ?_⟩, fun s hw hl => ?_⟩
  · rw [eq_wireFrame_of_enc_ok he, length_wireFrame]
    omega
  · obtain ⟨h1, -⟩ | ⟨h1, -⟩ | ⟨-, hp, -⟩ := enc_cases h p
    · rw [h1] at he; cases he
    · rw [h1] at he; cases he
    · exact decodingAFrameRestoresItsBytes h p f hh (by rwa [List.length_append]) hp he
  · exact exec_rxByte_flag1_of_short hw (by rw [hl]; decide)

/-! ### One flipped bit (R158) -/

theorem byteSum_cons (x : Byte) (xs : List Byte) : byteSum (x :: xs) = x + byteSum xs := by
  rw [← sum8_eq_byteSum, sum8_cons, sum8_eq_byteSum]

/-- What is added to one byte is added to the sum. -/
theorem byteSum_set_add {d : List Byte} {i : Nat} {x : Byte} (hx : d[i]? = some x) (e : Byte) :
    byteSum (d.set i (x + e)) = byteSum d + e := by
  induction d generalizing i with
  | nil => cases hx
  | cons y ys ih =>
    cases i with
    | zero =>
      cases hx
      rw [List.set_cons_zero, byteSum_cons, byteSum_cons, add_right_comm]
    | succ i =>
      rw [List.set_cons_succ, byteSum_cons, byteSum_cons, ih hx, BitVec.add_assoc]

/-- Words with no common bit add without a carry. -/
theorem add_eq_xor_of_and_eq_zero {w : Nat} {x y : BitVec w} (h : x &&& y = 0#w) :
    x + y = x ^^^ y := by
  rw [BitVec.add_eq_or_of_and_eq_zero x y h]
  refine BitVec.eq_of_getElem_eq fun i hi => ?_
  have hb : (x[i] && y[i]) = false := by rw [← BitVec.getElem_and, h, BitVec.getElem_zero]
  rw [BitVec.getElem_or, BitVec.getElem_xor]
  cases hxi : x[i] <;> simp_all

/-- Flipping a clear bit adds its power of two, flipping a set one takes it away. -/
theorem xor_bit_eq_add {w : Nat} (x : BitVec w) (k : Nat) :
    x ^^^ (1#w <<< k) = x + 1#w <<< k ∨ x ^^^ (1#w <<< k) = x + -(1#w <<< k) := by
  rw [← BitVec.twoPow_eq]
  have hand := BitVec.and_twoPow x k
  split at hand
  · right
    have hclear : (x ^^^ BitVec.twoPow w k) &&& BitVec.twoPow w k = 0#w := by
      refine BitVec.eq_of_getElem_eq fun i hi => ?_
      have hb := congrArg (·.getLsbD i) hand
      simp only [BitVec.getLsbD_eq_getElem hi, BitVec.getElem_and] at hb
      rw [BitVec.getElem_and, BitVec.getElem_xor, Bool.and_xor_distrib_right, hb, Bool.and_self,
        Bool.xor_self, BitVec.getElem_zero]
    rw [← BitVec.sub_eq_add_neg, BitVec.eq_sub_iff_add_eq, add_eq_xor_of_and_eq_zero hclear,
      BitVec.xor_assoc, BitVec.xor_self, BitVec.xor_zero]
  · exact .inl (add_eq_xor_of_and_eq_zero hand).symm

theorem bit_ne_zero {w k : Nat} (hk : k < w) : 1#w <<< k ≠ 0#w := by
  intro h
  have hb := congrArg (·.getLsbD k) h
  simp [hk] at hb

/-- The flip of bit `k` of one byte moves the sum by a power of two. -/
theorem byteSum_set_flip {d : List Byte} {i : Nat} {x : Byte} (hx : d[i]? = some x) (k : Nat) :
    byteSum (d.set i (x ^^^ (1#8 <<< k))) = byteSum d + 1#8 <<< k ∨
      byteSum (d.set i (x ^^^ (1#8 <<< k))) = byteSum d - 1#8 <<< k := by
  obtain h | h := xor_bit_eq_add x k
  · exact .inl (by rw [h, byteSum_set_add hx])
  · exact .inr (by rw [h, byteSum_set_add hx, BitVec.sub_eq_add_neg])

/-- That power of two is not zero mod 256, so the flip changes the sum. -/
theorem byteSum_set_flip_ne {d : List Byte} {i k : Nat} {x : Byte} (hx : d[i]? = some x)
    (hk : k < 8) : byteSum (d.set i (x ^^^ (1#8 <<< k))) ≠ byteSum d := by
  obtain h | h := byteSum_set_flip hx k <;> rw [h]
  · exact mt add_eq_left.mp (bit_ne_zero hk)
  · exact mt sub_eq_self.mp (bit_ne_zero hk)

theorem byteSum_perm {d d' : List Byte} (h : d.Perm d') : byteSum d' = byteSum d :=
  congrArg (BitVec.ofNat 8) (h.map BitVec.toNat).sum_eq.symm

/-- Settles O22: the flip changes the sum, and the frame decodes exactly when its checksum is the sum;
the sum sees neither the order of the bytes nor changes that cancel. -/
theorem checksumCatchesEverySingleBitFlip : Obligations.ChecksumCatchesEverySingleBitFlip := by
  refine ⟨fun d i k x hx hk => ⟨byteSum_set_flip hx k, ?_⟩, fun d d' hd' hsum => ?_,
    fun _ _ => byteSum_perm⟩
  · have hi : 0 < (d.set i (x ^^^ (1#8 <<< k))).length := by
      rw [List.length_set]
      exact Nat.zero_lt_of_lt (List.getElem?_eq_some_iff.mp hx).1
    rw [dec_frameWithSum (List.ne_nil_of_length_pos hi), if_neg (byteSum_set_flip_ne hx hk)]
  · rw [dec_frameWithSum hd', if_pos hsum]

end Sys2Proof.Machine
end

section
/-! PROOF. The decoder is the spec's pseudocode with indices (41_frame_codec.md R145 to R149): each of
the three scans, on the bytes from an index on, is the machine's function of those bytes. -/

open Sys2Proof.Form

namespace Sys2Proof.Machine

/-- Step 1: the marker search over the first `n` indices. -/
theorem afterMarker_eq_find? (n : Nat) (f : List Byte) :
    afterMarker n f =
      ((List.range n).find? fun k => f[k]? = some 0x7E ∧ f[k + 1]? = some 0xFF).map
        fun i => f.drop (i + 2) := by
  induction n generalizing f with
  | zero => rfl
  | succ n ih =>
    rw [List.range_succ_eq_map, List.find?_cons, List.find?_map]
    match f with
    | [] => simp [afterMarker]
    | [x] => simp [afterMarker]
    | x :: y :: rest =>
      have h0 : ((x :: y :: rest)[0]? = some 0x7E ∧ (x :: y :: rest)[0 + 1]? = some 0xFF) ↔
          x = FLAG1 ∧ y = FLAG2 := by simp [FLAG1, FLAG2]
      by_cases h : x = FLAG1 ∧ y = FLAG2
      · rw [afterMarker, if_pos h, decide_eq_true (h0.mpr h)]; rfl
      · rw [afterMarker, if_neg h, ih, decide_eq_false (mt h0.mp h), Option.map_map]; rfl

/-- Step 2: the terminator search from index `s` on. -/
theorem beforeFlag1_drop_eq_find? (f : List Byte) (s : Nat) :
    beforeFlag1 (f.drop s) =
      ((List.range f.length).find? fun k => s ≤ k ∧ f[k]? = some 0x7E).map
        fun t => (f.drop s).take (t - s) := by
  induction f generalizing s with
  | nil => rw [List.drop_nil]; rfl
  | cons x xs ih =>
    rw [List.length_cons, List.range_succ_eq_map, List.find?_cons, List.find?_map]
    cases s with
    | zero =>
      have hxs := ih 0
      by_cases h : x = 0x7E
      · simp [beforeFlag1, FLAG1, h]
      · simp_all [beforeFlag1, FLAG1, Function.comp_def]
    | succ s => simp [ih, Function.comp_def]

theorem getElem?_and_drop_succ {f r : List Byte} {j : Nat} {x : Byte} (h : f.drop j = x :: r) :
    f[j]? = some x ∧ f.drop (j + 1) = r := by
  constructor
  · rw [← List.head?_drop, h]; rfl
  · rw [← List.tail_drop, h]; rfl

section
variable {f u : List Byte} {t n j : Nat} {x y : Byte}

/-- A round of the unescape loop at a byte that stands for itself. -/
theorem scanRegion_byte (hj : j < t) (hx : f[j]? = some x) (hne : x ≠ ESC) :
    scanRegion f t (n + 1) j u = scanRegion f t n (j + 1) (u ++ [x]) := by
  have hne' : f[j]? ≠ some 0x7D := by rw [hx]; exact mt Option.some_inj.mp hne
  rw [scanRegion, if_pos hj, if_neg hne', List.getD_eq_getElem?_getD, hx, Option.getD_some]

/-- A round of the unescape loop at an ESC with a byte of the region after it. -/
theorem scanRegion_pair (hj : j + 1 < t) (hx : f[j]? = some ESC) (hy : f[j + 1]? = some y) :
    scanRegion f t (n + 1) j u =
      if y = FLAG1_ESC then scanRegion f t n (j + 2) (u ++ [FLAG1])
      else if y = ESC_ESC then scanRegion f t n (j + 2) (u ++ [ESC])
      else .error .invalidEscape := by
  rw [scanRegion, if_pos (Nat.lt_of_succ_lt hj), if_pos (c := f[j]? = some 0x7D) hx,
    if_neg hj.ne, hy]
  simp only [Option.some_inj]
  rfl

end

/-- A byte put at the end of what is unescaped so far is the next byte of the result. -/
theorem map_append_snoc (u : List Byte) (x : Byte) (r : Except CodecError (List Byte)) :
    r.map (u ++ [x] ++ ·) = (r.map (x :: ·)).map (u ++ ·) := by
  cases r with
  | error e => rfl
  | ok v => simp [Except.map]

/-- Step 3: the unescape loop over the region from index `j` up to `t`, when the fuel covers it. -/
theorem scanRegion_eq_unescape {f r tail : List Byte} {t fuel j : Nat} (hf : f.drop j = r ++ tail)
    (ht : j + r.length = t) (hr : r.length ≤ fuel) (u : List Byte) :
    scanRegion f t fuel j u = (unescape r).map (u ++ ·) := by
  match r with
  | [] =>
    obtain rfl : j = t := ht
    cases fuel <;> simp [scanRegion, unescape, Except.map]
  | [x] =>
    obtain ⟨hx, -⟩ := getElem?_and_drop_succ hf
    obtain ⟨n, rfl⟩ := Nat.exists_eq_add_of_le' hr
    obtain rfl : j + 1 = t := ht
    by_cases hesc : x = ESC
    · simp [scanRegion, unescape, Except.map, hx, hesc, ESC]
    · rw [List.length_singleton, scanRegion_byte (Nat.lt_succ_self j) hx hesc]
      cases n <;> simp [scanRegion, unescape, hesc, Except.map]
  | x :: y :: rest =>
    obtain ⟨hx, hf'⟩ := getElem?_and_drop_succ hf
    obtain ⟨hy, hf''⟩ := getElem?_and_drop_succ hf'
    rw [List.length_cons, List.length_cons] at ht hr
    obtain ⟨n, rfl⟩ := Nat.exists_eq_add_of_le' (Nat.le_of_add_left_le hr)
    by_cases hesc : x = ESC
    · subst hesc
      rw [scanRegion_pair (by omega) hx hy, unescape, if_pos rfl]
      split_ifs
      · rw [scanRegion_eq_unescape hf'' (by omega) (by omega), map_append_snoc]
      · rw [scanRegion_eq_unescape hf'' (by omega) (by omega), map_append_snoc]
      · rfl
    · rw [scanRegion_byte (by omega) hx hesc, unescape, if_neg hesc,
        scanRegion_eq_unescape hf' (by rw [List.length_cons]; omega)
          (by rw [List.length_cons]; omega), map_append_snoc]
termination_by r.length

/-- Step 4: the last byte is the checksum of those before it. -/
theorem validate_eq_take (u : List Byte) :
    validate u =
      if byteSum (u.take (u.length - 1)) = u.getD (u.length - 1) 0
      then .ok (u.take (u.length - 1)) else .error .checksumMismatch := by
  rw [validate, sum8_eq_byteSum, List.dropLast_eq_take, List.getLastD_eq_getLast?,
    List.getLast?_eq_getElem?, List.getD_eq_getElem?_getD]

/-- Steps 3 to 5 on the region of `f` from `s` up to `t`. -/
theorem scanRegion_slice {f : List Byte} {s t : Nat} (hs : s ≤ t) (ht : t ≤ f.length) :
    scanRegion f t f.length s [] = unescape ((f.drop s).take (t - s)) := by
  have hlen : ((f.drop s).take (t - s)).length = t - s := by
    rw [List.length_take, List.length_drop]
    omega
  rw [scanRegion_eq_unescape (List.take_append_drop (t - s) (f.drop s)).symm (by omega) (by omega)]
  cases unescape ((f.drop s).take (t - s)) <;> rfl

/-- Settles O24: step by step, the two searches and then the region. -/
theorem decoderIsTheIndexedAlgorithm : Obligations.DecoderIsTheIndexedAlgorithm := by
  intro f
  rw [dec, decodeByIndex]
  by_cases hl : f.length ≤ 4
  · rw [if_pos hl, if_pos hl]
  rw [if_neg hl, if_neg hl, afterMarker_eq_find?]
  cases (List.range (f.length - 4)).find? fun k => f[k]? = some 0x7E ∧ f[k + 1]? = some 0xFF with
  | none => rfl
  | some i =>
    simp only [Option.map_some, beforeFlag1_drop_eq_find?]
    cases hfind : (List.range f.length).find? fun k => i + 2 ≤ k ∧ f[k]? = some 0x7E with
    | none => rfl
    | some t =>
      have hs : i + 2 ≤ t := (decide_eq_true_iff.mp (List.find?_some hfind :)).1
      have ht : t < f.length := List.mem_range.mp (List.mem_of_find?_eq_some hfind)
      by_cases hempty : t = i + 2
      · simp [hempty]
      · simp only [Option.map_some, if_neg hempty, scanRegion_slice hs ht.le, ← validate_eq_take]
        have hpos : 0 < ((f.drop (i + 2)).take (t - (i + 2))).length := by
          rw [List.length_take, List.length_drop]
          omega
        obtain ⟨x, xs, hr⟩ := List.exists_cons_of_length_pos hpos
        rw [hr]
        rfl

end Sys2Proof.Machine
end

section
/-! PROOF. ENCODE, ENCODE_H and DECODE (41_frame_codec.md R152 to R154): one equation per side of the
length check, and what a codec result leaves of the state. -/

open Sys2Proof.Form

namespace Sys2Proof.Machine

section
variable {arg : Byte} {len : Len} {s : State}

theorem exec_encode_of_le (h : len.toNat ≤ 256) :
    exec (.encode arg len) s =
      .next ((s.issue (cmdWord 0x03 arg len)).reportCodec (enc [] (slice s.a len.toNat))) :=
  if_neg (Nat.not_lt.mpr h)

theorem exec_encode_of_gt (h : 256 < len.toNat) :
    exec (.encode arg len) s =
      .next { s with cmd := cmdWord 0x03 arg len, status := ENC_TOO_LONG } :=
  if_pos h

theorem exec_encodeH_of_le (h : len.toNat ≤ 256) :
    exec (.encodeH arg len) s =
      .next ((s.issue (cmdWord 0x04 arg len)).reportCodec (enc [arg] (slice s.a len.toNat))) :=
  if_neg (Nat.not_lt.mpr h)

theorem exec_encodeH_of_gt (h : 256 < len.toNat) :
    exec (.encodeH arg len) s =
      .next { s with cmd := cmdWord 0x04 arg len, status := ENC_TOO_LONG } :=
  if_pos h

theorem exec_decode_of_le (h : len.toNat ≤ 1024) :
    exec (.decode arg len) s =
      .next ((s.issue (cmdWord 0x05 arg len)).reportCodec (dec (slice s.a len.toNat))) :=
  if_neg (Nat.not_lt.mpr h)

theorem exec_decode_of_gt (h : 1024 < len.toNat) :
    exec (.decode arg len) s = .next { s with cmd := cmdWord 0x05 arg len, status := ERR_LEN } :=
  if_pos h

end

/-- A codec error: its code to STATUS, and B and OUT_LEN keep their values. -/
theorem issue_reportCodec_error (s : State) (w : Word) (e : CodecError) :
    (s.issue w).reportCodec (.error e) = { s with cmd := w, status := e.code } := rfl

/-- A codec output: its bytes to B, its length to OUT_LEN, and status OK. -/
theorem issue_reportCodec_ok (s : State) (w : Word) (f : List Byte) :
    (s.issue w).reportCodec (.ok f) = { s with
      cmd := w, b := writeFront s.b f, outLen := BitVec.ofNat 11 f.length, status := OK } := rfl

/-- A slice holds at most the bytes asked for. -/
theorem length_slice_le {n k m : Nat} (v : Vector Byte n) (h : k ≤ m) : (slice v k).length ≤ m := by
  rw [length_slice]
  exact (Nat.min_le_left k n).trans h

/-- A frame past ENC_CAP is reported and leaves B and OUT_LEN (R144). -/
theorem issue_reportCodec_enc_of_lt (s : State) (w : Word) (h : List Byte) {p : List Byte}
    (hp : p.length ≤ 256)
    (hf : 516 + 2 * h.length < (wireFrame h p).length) :
    (s.issue w).reportCodec (enc h p) = { s with cmd := w, status := ENC_OVERFLOW } := by
  rw [enc_of_lt_length hp hf, issue_reportCodec_error]
  rfl

/-- A frame within ENC_CAP is the output. -/
theorem issue_reportCodec_enc_of_le (s : State) (w : Word) (h : List Byte) {p : List Byte}
    (hp : p.length ≤ 256)
    (hf : (wireFrame h p).length ≤ 516 + 2 * h.length) :
    (s.issue w).reportCodec (enc h p) = { s with
      cmd := w, b := writeFront s.b (wireFrame h p)
      outLen := BitVec.ofNat 11 (wireFrame h p).length, status := OK } := by
  rw [enc_of_length_le hp hf, issue_reportCodec_ok]

/-- Settles O16: the length check, then the encoder's two answers. -/
theorem encodeResult : Obligations.EncodeResult := by
  rintro arg len s f rfl
  rw [assembled_eq_cmdWord]
  refine ⟨exec_encode_of_gt, fun hlen ho => ?_, fun hlen hfit =>
    ⟨_, ?_, writeFront_getElem_getD s.b _⟩⟩ <;> rw [exec_encode_of_le hlen]
  · rw [issue_reportCodec_enc_of_lt s _ [] (length_slice_le s.a hlen) ho]
  · rw [issue_reportCodec_enc_of_le s _ [] (length_slice_le s.a hlen) hfit, slice]

/-- Settles O17: as ENCODE, with the header in the frame and one byte of header in the capacity. -/
theorem encodeHResult : Obligations.EncodeHResult := by
  rintro hdr len s f rfl
  rw [assembled_eq_cmdWord]
  refine ⟨exec_encodeH_of_gt, fun hlen ho => ?_, fun hlen hfit =>
    ⟨_, ?_, writeFront_getElem_getD s.b _⟩⟩ <;> rw [exec_encodeH_of_le hlen]
  · rw [issue_reportCodec_enc_of_lt s _ [hdr] (length_slice_le s.a hlen) ho]
  · rw [issue_reportCodec_enc_of_le s _ [hdr] (length_slice_le s.a hlen) hfit, slice]

/-- Settles O23: the length check, then the decoder's answer reported. -/
theorem decodeResult : Obligations.DecodeResult := by
  intro arg len s
  rw [assembled_eq_cmdWord]
  refine ⟨exec_decode_of_gt, fun e hlen he => ?_, fun d hlen hd =>
    ⟨writeFront s.b d, ?_, writeFront_getElem_getD s.b d⟩, rfl, rfl, rfl, rfl, rfl⟩ <;>
    rw [exec_decode_of_le hlen, slice]
  · rw [he, issue_reportCodec_error]
  · rw [hd, issue_reportCodec_ok]

end Sys2Proof.Machine
end

section
/-! PROOF. RX_BYTE, byte by byte (42_reassembler.md R184 to R190): one equation per branch of the
reassembler. The terminator of a frame hands its packet to the dispatcher, and the dispatcher does not
see the reassembler, so the two parts of the next state can be written apart. -/

open Sys2Proof.Form

namespace Sys2Proof.Machine

/-! ### Outside a frame's region (R184, R185) -/

section
variable {s : State} {b : Byte}

theorem exec_rxByte_flag1_of_waitFlag1 (hw : s.rsmState = .waitFlag1) :
    exec (.rxByte FLAG1) s = .next s.startFrame :=
  (execRxByte_waitFlag1 FLAG1 hw).trans (if_pos rfl)

theorem exec_rxByte_of_waitFlag1 (hw : s.rsmState = .waitFlag1) (hb : b ≠ FLAG1) :
    exec (.rxByte b) s = .next s :=
  (execRxByte_waitFlag1 b hw).trans (if_neg hb)

/-- Padding before FLAG2 (R185). -/
theorem exec_rxByte_flag1_of_waitFlag2 (hw : s.rsmState = .waitFlag2) :
    exec (.rxByte FLAG1) s = .next s :=
  (execRxByte_waitFlag2 FLAG1 hw).trans ((if_neg (by decide)).trans (if_pos rfl))

/-- Any other byte before FLAG2 (R185). -/
theorem exec_rxByte_of_waitFlag2 (hw : s.rsmState = .waitFlag2) (h2 : b ≠ FLAG2) (h1 : b ≠ FLAG1) :
    exec (.rxByte b) s = .next s.idleFrame :=
  (execRxByte_waitFlag2 b hw).trans ((if_neg h2).trans (if_neg h1))

theorem append?_of_lt (h : s.rsmLen.toNat < Config.ACC_CAP) : s.append? b = some (s.appended b h) :=
  dif_pos h

theorem exec_rxByte_flag2_of_waitFlag2 (hw : s.rsmState = .waitFlag2) (hl : s.rsmLen = 1) :
    exec (.rxByte FLAG2) s = .next { s with
      rsmBuf := s.rsmBuf.set 1 FLAG2, rsmLen := 2, rsmState := .waitTerminator } := by
  have hlt : s.rsmLen.toNat < Config.ACC_CAP := by rw [hl]; decide
  calc exec (.rxByte FLAG2) s
    _ = rxWaitFlag2 FLAG2 s := execRxByte_waitFlag2 FLAG2 hw
    _ = .next { s.appended FLAG2 hlt with rsmState := .waitTerminator } := by
      rw [rxWaitFlag2, if_pos rfl, append?_of_lt hlt]
    _ = _ := by simp only [State.appended, hl]; rfl

end

/-- Settles O37: each clause is the equation of one branch. -/
theorem rxByteOutsideAFrame : Obligations.RxByteOutsideAFrame := by
  refine ⟨fun b s hw => ⟨?_, exec_rxByte_of_waitFlag1 hw⟩,
    fun b s hw hl => ⟨?_, ?_, exec_rxByte_of_waitFlag2 hw⟩⟩ <;> rintro rfl
  · exact exec_rxByte_flag1_of_waitFlag1 hw
  · exact exec_rxByte_flag2_of_waitFlag2 hw hl
  · exact exec_rxByte_flag1_of_waitFlag2 hw

/-! ### Inside a frame's region (R186, R190) -/

section
variable {s : State} {b : Byte}

theorem exec_rxByte_of_waitTerminator (hw : s.rsmState = .waitTerminator) (hb : b ≠ FLAG1)
    (hl : s.rsmLen.toNat < Config.ACC_CAP) :
    exec (.rxByte b) s = .next (s.appended b hl).checkOverflow := by
  calc exec (.rxByte b) s
    _ = rxWaitTerminator b s := execRxByte_waitTerminator b hw
    _ = _ := by rw [rxWaitTerminator, if_neg fun h => hb h.1, append?_of_lt hl]; exact if_neg hb

/-- The terminator of a frame that is not too short ends it, even in the last element (R187). -/
theorem exec_rxByte_flag1_of_waitTerminator (hw : s.rsmState = .waitTerminator)
    (h4 : 4 ≤ s.rsmLen.toNat) (hl : s.rsmLen.toNat < Config.ACC_CAP) :
    exec (.rxByte FLAG1) s = (s.appended FLAG1 hl).completeFrame := by
  calc exec (.rxByte FLAG1) s
    _ = rxWaitTerminator FLAG1 s := execRxByte_waitTerminator FLAG1 hw
    _ = _ := by
      rw [rxWaitTerminator, if_neg fun h => Nat.not_lt.mpr h4 h.2, append?_of_lt hl]
      exact if_pos rfl

theorem checkOverflow_appended_of_lt (hl : s.rsmLen.toNat < Config.ACC_CAP)
    (h : s.rsmLen.toNat < 255) : (s.appended b hl).checkOverflow = s.appended b hl :=
  if_neg (by rw [appended_rsmLen]; exact (Nat.succ_lt_succ h).ne)

theorem checkOverflow_appended_of_eq (hl : s.rsmLen.toNat < Config.ACC_CAP)
    (h : s.rsmLen.toNat = 255) :
    (s.appended b hl).checkOverflow = (s.appended b hl).logOverflow.idleFrame :=
  if_pos (by rw [appended_rsmLen, h])

end

/-- Settles O38: an append, on each side of the overflow check, and a terminator that is too early. -/
theorem rxByteInsideAFrame : Obligations.RxByteInsideAFrame := by
  refine ⟨fun b s hl hw hb => ⟨fun h => ?_, fun h => ?_⟩, fun s => exec_rxByte_flag1_of_short⟩ <;>
    rw [exec_rxByte_of_waitTerminator hw hb hl]
  · rw [checkOverflow_appended_of_lt hl h]
    rfl
  · rw [checkOverflow_appended_of_eq hl h]
    rfl

/-! ### What the terminator delivers (R188) -/

/-- The plain form of the scrambling is the machine's (40_scrambler.md R121). -/
theorem scrambled_eq_scr (key : Vector Byte 64) (xs : List Byte) (seed : Byte) :
    scrambled key xs seed = scr key xs seed := by
  refine List.ext_getElem (by simp [scrambled]) fun i _ _ => ?_
  simp [scrambled, scr_getElem, keyByte_eq_keyAt]

/-- The dispatcher neither reads nor writes the reassembler (20_memory.md R79). -/
theorem dispatchPacket_withRx (s x : State) (op : Byte) (args : List Byte) :
    (s.withRx x).dispatchPacket op args = (s.dispatchPacket op args).withRx x := by
  simp only [State.dispatchPacket, State.loopbackOk, State.captureReply,
    apply_ite (State.withRx · x)]
  rfl

/-- The state after the delivery of the packet `p`, which is none when it is empty (R188). -/
def State.delivered (s : State) : List Byte → State
  | [] => s
  | op :: args => s.dispatchPacket op args

theorem deliver_eq_delivered (p : List Byte) (s : State) : deliver p s = .next (s.delivered p) := by
  cases p <;> rfl

theorem delivered_withRx (s x : State) (p : List Byte) :
    (s.withRx x).delivered p = (s.delivered p).withRx x := by
  cases p with
  | nil => rfl
  | cons op args => exact dispatchPacket_withRx s x op args

/-- The dispatcher leaves the reassembler as it is. -/
theorem delivered_keeps_rx (s : State) (p : List Byte) :
    s.delivered p = (s.delivered p).withRx s :=
  delivered_withRx s s p

/-- The state after a frame that carried the packet `p`, with `m` in RSM_BUF: the packet is delivered to
the rest of the state, and the reassembler counts the frame and is back in WAIT_FLAG1 (R188). -/
def State.received (s : State) (p : List Byte) (m : Vector Byte Config.ACC_CAP) : State :=
  { s.delivered p with
    rsmBuf := m, rxOkCnt := s.rxOkCnt + 1, rxLast := deliveredCode p
    rsmState := .waitFlag1, rsmLen := 0 }

/-- `s` with the reassembler in the state `st` and `m[0..n)` accumulated. -/
def State.withFrame (s : State) (st : RsmState) (m : Vector Byte Config.ACC_CAP) (n : BitVec 9) :
    State :=
  { s with rsmState := st, rsmBuf := m, rsmLen := n }

/-- What was accumulated before is not seen in the state after the frame. -/
theorem received_withFrame (s : State) (st : RsmState) (v m : Vector Byte Config.ACC_CAP)
    (n : BitVec 9) (p : List Byte) : (s.withFrame st v n).received p m = s.received p m := by
  have h : (s.withFrame st v n).delivered p = (s.delivered p).withRx (s.withFrame st v n) :=
    delivered_withRx s (s.withFrame st v n) p
  rw [State.received, h, State.received, delivered_keeps_rx s]
  rfl

/-- An accepted frame is counted and its packet delivered. -/
theorem acceptFrame_eq_received {s : State} {seed : Byte} {d p : List Byte}
    (hp : scr s.params.key d seed = p) : s.acceptFrame seed d = s.received p s.rsmBuf := by
  rw [State.received, delivered_keeps_rx s]
  obtain ⟨hp', ha⟩ | ⟨op, args, hp', ha⟩ := acceptFrame_cases s seed d <;> rw [ha] <;>
    obtain rfl := hp.symm.trans hp'
  · rfl
  · exact congrArg State.idleFrame (dispatchPacket_withRx s
      { s with rxOkCnt := s.rxOkCnt + 1, rxLast := RX_OK } op args)

section
variable {s : State}

theorem completeFrame_of_dec_ok {seed : Byte} {d : List Byte}
    (hd : dec s.accumulated = .ok (seed :: d)) :
    s.completeFrame = .next (s.acceptFrame seed d) := by
  rw [State.completeFrame, hd]

theorem completeFrame_of_dec_error {e : CodecError} (hd : dec s.accumulated = .error e) :
    s.completeFrame = .next (s.logBadFrame e).startFrame := by
  rw [State.completeFrame, hd]

/-- A frame that decodes has its packet delivered (R188). -/
theorem exec_rxByte_of_dec_ok (hw : s.rsmState = .waitTerminator) (h4 : 4 ≤ s.rsmLen.toNat)
    (hl : s.rsmLen.toNat < Config.ACC_CAP) {seed : Byte} {d p : List Byte}
    (hd : dec (s.accumulated ++ [FLAG1]) = .ok (seed :: d)) (hp : scr s.params.key d seed = p) :
    exec (.rxByte FLAG1) s = .next (s.received p (s.rsmBuf.set s.rsmLen.toNat FLAG1)) := by
  rw [← appended_accumulated s FLAG1 hl] at hd
  rw [exec_rxByte_flag1_of_waitTerminator hw h4 hl, completeFrame_of_dec_ok hd,
    acceptFrame_eq_received (s := s.appended FLAG1 hl) hp]
  exact congrArg Host.Outcome.next (received_withFrame s _ _ _ _ p)

/-- A frame that does not decode is logged, and its terminator starts the next one (R189). -/
theorem exec_rxByte_of_dec_error (hw : s.rsmState = .waitTerminator) (h4 : 4 ≤ s.rsmLen.toNat)
    (hl : s.rsmLen.toNat < Config.ACC_CAP) {e : CodecError}
    (hd : dec (s.accumulated ++ [FLAG1]) = .error e) :
    exec (.rxByte FLAG1) s = .next ((s.appended FLAG1 hl).logBadFrame e).startFrame := by
  rw [← appended_accumulated s FLAG1 hl] at hd
  rw [exec_rxByte_flag1_of_waitTerminator hw h4 hl, completeFrame_of_dec_error hd]

end

theorem logBadFrame_of_ne (s : State) {e : CodecError} (he : e ≠ .checksumMismatch) :
    s.logBadFrame e = { s with rxLast := e.code, rxStructCnt := s.rxStructCnt + 1 } :=
  if_neg he

/-- Settles O39: the frame decodes to an empty packet or to one that is dispatched, or fails with one
of the two logs. -/
theorem rxByteEndsAFrame : Obligations.RxByteEndsAFrame := by
  rintro s hl f hw h4 rfl
  refine ⟨fun seed d hd hp => ?_, fun seed d op args hd hp => ⟨_, rfl, ?_⟩, fun hd => ?_,
    fun e he hd => ?_⟩
  · rw [scrambled_eq_scr] at hp
    exact exec_rxByte_of_dec_ok hw h4 hl hd hp
  · rw [scrambled_eq_scr] at hp
    exact exec_rxByte_of_dec_ok hw h4 hl hd hp
  · exact exec_rxByte_of_dec_error hw h4 hl hd
  · refine (exec_rxByte_of_dec_error hw h4 hl hd).trans ?_
    rw [logBadFrame_of_ne _ he]
    rfl

end Sys2Proof.Machine
end

section
/-! PROOF. What a reassembled frame decodes to, and what a FLAG1 does (42_reassembler.md R193, R194): the
region of a frame that ends has two bytes or more and no FLAG1, so the decoder finds it, and what it
unescapes to is more than a checksum or fails. -/

namespace Sys2Proof.Machine

/-! ### Unescaping a region (41_frame_codec.md R148, R149) -/

theorem except_map_ok {ε α β : Type} {f : α → β} {r : Except ε α} {y : β} (h : r.map f = .ok y) :
    ∃ x, r = .ok x ∧ f x = y := by
  cases r <;> cases h
  exact ⟨_, rfl, rfl⟩

theorem except_map_error {ε α β : Type} {f : α → β} {r : Except ε α} {e : ε}
    (h : r.map f = .error e) : r = .error e := by
  cases r <;> cases h
  rfl

/-- The only error of unescaping. -/
theorem eq_invalidEscape_of_unescape_error {r : List Byte} {e : CodecError}
    (h : unescape r = .error e) : e = .invalidEscape := by
  induction r using unescape.induct with
  | case1 => simp [unescape] at h
  | case2 => simpa [unescape] using h.symm
  | case3 x hx => simp [unescape, hx] at h
  | case4 rest ih =>
    simp only [unescape, reduceIte] at h
    exact ih (except_map_error h)
  | case5 rest h1 ih =>
    simp only [unescape, reduceIte, h1] at h
    exact ih (except_map_error h)
  | case6 y rest h1 h2 => simpa [unescape, h1, h2] using h.symm
  | case7 x y rest hx ih =>
    simp only [unescape, hx, reduceIte] at h
    exact ih (except_map_error h)

/-- A first byte stands for itself, or begins a pair that stands for FLAG1 or ESC. -/
theorem unescape_cons_ok {x : Byte} {r u : List Byte} (h : unescape (x :: r) = .ok u) :
    ∃ c v, u = c :: v ∧ (unescape r = .ok v ∨ c = FLAG1 ∨ c = ESC) := by
  cases r with
  | nil =>
    unfold unescape at h
    split at h <;> cases h
    exact ⟨x, [], rfl, .inl rfl⟩
  | cons y rest =>
    unfold unescape at h
    split at h
    · split at h
      · obtain ⟨v, -, rfl⟩ := except_map_ok h
        exact ⟨_, v, rfl, .inr (.inl rfl)⟩
      · split at h
        · obtain ⟨v, -, rfl⟩ := except_map_ok h
          exact ⟨_, v, rfl, .inr (.inr rfl)⟩
        · cases h
    · obtain ⟨v, hv, rfl⟩ := except_map_ok h
      exact ⟨_, v, rfl, .inl hv⟩

/-- A region of two bytes or more that unescapes to a single byte is one pair. -/
theorem eq_flag1_or_esc_of_unescape_eq_singleton {r : List Byte} {c : Byte} (hr : 2 ≤ r.length)
    (h : unescape r = .ok [c]) : c = FLAG1 ∨ c = ESC := by
  obtain ⟨x, y, rest, rfl⟩ : ∃ x y rest, r = x :: y :: rest := by
    match r, hr with
    | x :: y :: rest, _ => exact ⟨x, y, rest, rfl⟩
  obtain ⟨c', v, hc, hx⟩ := unescape_cons_ok h
  obtain ⟨rfl, rfl⟩ := List.cons.inj hc
  refine hx.resolve_left fun hy => ?_
  obtain ⟨_, _, hnil, -⟩ := unescape_cons_ok hy
  cases hnil

/-- What a region of two bytes or more decodes to: a byte at least, for a lone pair is a checksum that is
not the sum of no data (R193). -/
theorem decRegion_cases {r : List Byte} (hr : 2 ≤ r.length) :
    (∃ seed d, decRegion r = .ok (seed :: d)) ∨ decRegion r = .error .invalidEscape ∨
      decRegion r = .error .checksumMismatch := by
  unfold decRegion
  cases hu : unescape r with
  | error e => exact .inr (.inl (eq_invalidEscape_of_unescape_error hu ▸ rfl))
  | ok u =>
    match u, hu with
    | [], hu =>
      obtain ⟨x, rest, rfl⟩ := List.exists_cons_of_length_pos (Nat.zero_lt_of_lt hr)
      obtain ⟨_, _, hnil, -⟩ := unescape_cons_ok hu
      cases hnil
    | [c], hu =>
      refine .inr (.inr ?_)
      obtain rfl | rfl := eq_flag1_or_esc_of_unescape_eq_singleton hr hu <;> decide
    | c :: c' :: v, _ =>
      simp only [validate, List.dropLast_cons_cons]
      split
      · exact .inl ⟨_, _, rfl⟩
      · exact .inr (.inr rfl)

/-- Settles O40: the frame decodes as its region does. -/
theorem reassembledFrameOutcomes : Obligations.ReassembledFrameOutcomes := by
  intro region hr h1
  have hd : dec ([0x7E, 0xFF] ++ region ++ [0x7E]) = decRegion region := dec_reassembled [] hr h1
  rw [hd]
  exact decRegion_cases hr

/-! ### A FLAG1 in every state of the invariant (R194) -/

/-- R52: inside a frame the accumulated bytes are the marker and a region with no FLAG1. -/
theorem accumulated_eq_of_rsmInv {s : State} (hs : RsmInv s) (hw : s.rsmState = .waitTerminator) :
    ∃ region, s.accumulated = [0x7E, 0xFF] ++ region ∧ (0x7E : Byte) ∉ region ∧
      region.length + 2 = s.rsmLen.toNat := by
  obtain ⟨-, -, ht⟩ := hs
  obtain ⟨h2, h255, h0, h1, hd⟩ := ht hw
  have hlen : s.accumulated.length = s.rsmLen.toNat := by
    rw [State.accumulated, length_slice, Nat.min_eq_left (by simp only [Config.ACC_CAP]; omega)]
  refine ⟨s.accumulated.drop 2, ?_, fun hx => hd _ hx rfl, by rw [List.length_drop]; omega⟩
  have hfront : s.accumulated.take 2 = [0x7E, 0xFF] := by
    refine List.ext_getElem (by rw [List.length_take, hlen]; simp; omega) fun i hi hi' => ?_
    rw [List.getElem_take]
    simp only [State.accumulated, slice_getElem]
    match i, hi' with
    | 0, _ => exact h0
    | 1, _ => exact h1
  rw [← hfront, List.take_append_drop]

/-- A frame that ends decodes to a seed byte at least, or fails (R193). -/
theorem dec_accumulated_cases {s : State} (hs : RsmInv s) (hw : s.rsmState = .waitTerminator)
    (h4 : 4 ≤ s.rsmLen.toNat) :
    (∃ seed d, dec (s.accumulated ++ [FLAG1]) = .ok (seed :: d)) ∨
      ∃ e, dec (s.accumulated ++ [FLAG1]) = .error e := by
  obtain ⟨region, hacc, h1, hlen⟩ := accumulated_eq_of_rsmInv hs hw
  rw [hacc]
  obtain hok | he | he := reassembledFrameOutcomes region (by omega) h1
  · exact .inl hok
  · exact .inr ⟨_, he⟩
  · exact .inr ⟨_, he⟩

theorem startFrame_starts (s : State) :
    s.startFrame.rsmState = .waitFlag2 ∧ s.startFrame.rsmLen = 1 ∧ s.startFrame.rsmBuf[0] = 0x7E :=
  ⟨rfl, rfl, by simp [FLAG1]⟩

/-- Settles O41: the three states of the reassembler, and in a frame the outcomes of its decoding. -/
theorem noFlagIsLost : Obligations.NoFlagIsLost := by
  intro s hs
  cases hw : s.rsmState with
  | waitFlag1 =>
    exact ⟨_, exec_rxByte_flag1_of_waitFlag1 hw, .inl ⟨startFrame_starts s, rfl, .inl rfl⟩⟩
  | waitFlag2 => exact ⟨s, exec_rxByte_flag1_of_waitFlag2 hw, .inr (.inl ⟨rfl, rfl⟩)⟩
  | waitTerminator =>
    have hl : s.rsmLen.toNat < Config.ACC_CAP := by
      obtain ⟨-, -, ht⟩ := hs
      obtain ⟨-, h255, -⟩ := ht hw
      exact Nat.lt_succ_of_le h255
    obtain h4 | h4 := Nat.lt_or_ge s.rsmLen.toNat 4
    · exact ⟨_, exec_rxByte_flag1_of_short hw h4,
        .inl ⟨startFrame_starts s, rfl, .inr ⟨rfl, h4⟩⟩⟩
    obtain ⟨seed, d, hd⟩ | ⟨e, hd⟩ := dec_accumulated_cases hs hw h4
    · exact ⟨_, exec_rxByte_of_dec_ok hw h4 hl hd rfl,
        .inr (.inr (.inl ⟨⟨rfl, h4⟩, ⟨_, hd⟩, rfl, rfl⟩))⟩
    · exact ⟨_, exec_rxByte_of_dec_error hw h4 hl hd,
        .inr (.inr (.inr ⟨⟨rfl, h4⟩, ⟨e, hd, logBadFrame_rxLast _ e⟩, startFrame_starts _⟩))⟩

end Sys2Proof.Machine
end

section
/-! PROOF. Streams of received bytes (42_reassembler.md R195, R196): what garbage, a marker, a region and a
whole frame of the encoder leave, each by induction over its bytes, and the streams put together of
them. -/

open Sys2Proof.Form

namespace Sys2Proof.Machine

theorem feed_cons_of_next {b : Byte} {s t : State} (h : exec (.rxByte b) s = .next t)
    (bs : List Byte) : feed (b :: bs) s = feed bs t :=
  runInstrs_cons_of_next h _

/-- Garbage outside a frame changes nothing (R184). -/
theorem feed_of_waitFlag1 {s : State} (hw : s.rsmState = .waitFlag1) {g : List Byte}
    (h1 : FLAG1 ∉ g) : feed g s = .next s := by
  induction g with
  | nil => rfl
  | cons b g ih =>
    obtain ⟨hb, hg⟩ := not_or.mp (List.mem_cons.not.mp h1)
    rw [feed_cons_of_next (exec_rxByte_of_waitFlag1 hw (Ne.symm hb)), ih hg]

/-! ### A marker (R184, R185) -/

/-- RSM_BUF `m` with a marker in its first two elements. -/
def marked (m : Vector Byte Config.ACC_CAP) : Vector Byte Config.ACC_CAP :=
  (m.set 0 FLAG1).set 1 FLAG2

theorem slice_marked (m : Vector Byte Config.ACC_CAP) : slice (marked m) 2 = [FLAG1, FLAG2] :=
  (slice_set_end _ 1 FLAG2 (by decide)).trans
    (congrArg (· ++ [FLAG2]) (slice_set_end m 0 FLAG1 (by decide)))

section
variable {s : State}

theorem feed_flag2_startFrame (s : State) :
    feed [FLAG2] s.startFrame = .next (s.withFrame .waitTerminator (marked s.rsmBuf) 2) :=
  feed_cons_of_next (exec_rxByte_flag2_of_waitFlag2 rfl rfl) []

/-- A marker as it is reassembled (30_encoding.md R102). -/
theorem feed_marker (hw : s.rsmState = .waitFlag1) :
    feed [0x7E, 0xFF] s = .next (s.withFrame .waitTerminator (marked s.rsmBuf) 2) :=
  (feed_cons_of_next (exec_rxByte_flag1_of_waitFlag1 hw) _).trans (feed_flag2_startFrame s)

/-- A marker as the encoder writes it, with one byte of padding (30_encoding.md R99). -/
theorem feed_padded_marker (hw : s.rsmState = .waitFlag1) :
    feed [0x7E, 0x7E, 0xFF] s = .next (s.withFrame .waitTerminator (marked s.rsmBuf) 2) := by
  calc feed [FLAG1, FLAG1, FLAG2] s
    _ = feed [FLAG1, FLAG2] s.startFrame := feed_cons_of_next (exec_rxByte_flag1_of_waitFlag1 hw) _
    _ = feed [FLAG2] s.startFrame := feed_cons_of_next (exec_rxByte_flag1_of_waitFlag2 rfl) _
    _ = _ := feed_flag2_startFrame s

end

/-! ### A region (R186, R190) -/

/-- The bytes of a region that fits are accumulated. -/
theorem feed_region (s : State) (v : Vector Byte Config.ACC_CAP) (k : BitVec 9) {r : List Byte}
    (h1 : FLAG1 ∉ r) (hl : k.toNat + r.length ≤ 255) :
    ∃ m n, feed r (s.withFrame .waitTerminator v k) = .next (s.withFrame .waitTerminator m n) ∧
      n.toNat = k.toNat + r.length ∧ slice m n.toNat = slice v k.toNat ++ r := by
  induction r generalizing v k with
  | nil => exact ⟨v, k, rfl, rfl, (List.append_nil _).symm⟩
  | cons b r ih =>
    obtain ⟨hb, hr⟩ := not_or.mp (List.mem_cons.not.mp h1)
    rw [List.length_cons] at hl ⊢
    have hk : k.toNat < 255 := by omega
    have hcap : k.toNat < Config.ACC_CAP := Nat.lt_succ_of_lt hk
    have hlen : (k + 1).toNat = k.toNat + 1 :=
      appended_rsmLen (s.withFrame .waitTerminator v k) b hcap
    have hset : slice (v.set k.toNat b hcap) (k + 1).toNat = slice v k.toNat ++ [b] :=
      appended_accumulated (s.withFrame .waitTerminator v k) b hcap
    obtain ⟨m, n, hf, hn, hm⟩ := ih (v.set k.toNat b hcap) (k + 1) hr (by omega)
    refine ⟨m, n, ?_, by omega, by rw [hm, hset, List.append_assoc, List.singleton_append]⟩
    rw [feed_cons_of_next (exec_rxByte_of_waitTerminator rfl (Ne.symm hb) hcap),
      checkOverflow_appended_of_lt hcap hk]
    exact hf

/-- One byte more than fits: the overflow is logged, and the bytes that follow are garbage (R190). -/
theorem feed_overflow {s : State} (hw : s.rsmState = .waitTerminator) (hl : s.rsmLen.toNat = 255)
    {b : Byte} {more : List Byte} (hb : b ≠ FLAG1) (h1 : FLAG1 ∉ more) :
    ∃ m, feed (b :: more) s = .next (s.logOverflow.withFrame .waitFlag1 m 0) := by
  have hcap : s.rsmLen.toNat < Config.ACC_CAP := by rw [hl]; decide
  refine ⟨s.rsmBuf.set s.rsmLen.toNat b, ?_⟩
  rw [feed_cons_of_next (exec_rxByte_of_waitTerminator hw hb hcap),
    checkOverflow_appended_of_eq hcap hl, feed_of_waitFlag1 rfl h1]
  rfl

/-- Settles O42: after the marker 253 bytes are accumulated, the next one overflows, and what follows is
garbage. -/
theorem overflowReturnsToWaitFlag1 : Obligations.OverflowReturnsToWaitFlag1 := by
  intro s bs more hw hlen h1 hmore
  obtain ⟨r, b, rfl⟩ : ∃ r b, bs = r ++ [b] :=
    ⟨_, _, (List.dropLast_concat_getLast (List.ne_nil_of_length_pos (by omega))).symm⟩
  simp only [List.length_append, List.length_singleton, List.mem_append, List.mem_singleton,
    not_or] at hlen h1
  obtain ⟨hr, hb⟩ := h1
  have h2 : (2 : BitVec 9).toNat = 2 := rfl
  obtain ⟨m, n, hf, hn, -⟩ := feed_region s (marked s.rsmBuf) 2 hr (by omega)
  obtain ⟨m', ho⟩ := feed_overflow (s := s.withFrame .waitTerminator m n) rfl (hn.trans (by omega))
    (Ne.symm hb) hmore
  refine ⟨m', ?_⟩
  rw [List.append_assoc, feed_append (feed_marker hw), List.append_assoc, feed_append hf]
  refine ho.trans ?_
  rw [← hw]
  rfl

/-! ### Frames of the encoder (R195) -/

/-- An encoder output is an escaped region between its markers, and the region decodes to the header and
the payload (30_encoding.md R99, 41_frame_codec.md R155). -/
theorem region_of_enc_ok {h p w : List Byte} (hpos : 1 ≤ (h ++ p).length) (he : enc h p = .ok w) :
    ∃ region, w = [0x7E, 0x7E, 0xFF] ++ region ++ [0x7E] ∧ FLAG1 ∉ region ∧ 2 ≤ region.length ∧
      decRegion region = .ok (h ++ p) := by
  have hlen := length_escAll_ge (h ++ p ++ [byteSum (h ++ p)])
  rw [List.length_append, List.length_singleton] at hlen
  refine ⟨escAll (h ++ p ++ [byteSum (h ++ p)]), ?_, flag1_not_mem_escAll _, by omega, ?_⟩
  · rw [eq_wireFrame_of_enc_ok he, ← frame_eq_wireFrame, frame_eq_escAll]
  · rw [decRegion_escAll, if_pos rfl]

/-- A frame of the encoder that RSM_BUF can hold has its packet delivered. -/
theorem feed_frame {s : State} (hw : s.rsmState = .waitFlag1) {seed : Byte} {p w : List Byte}
    (he : enc [seed] (scr s.params.key p seed) = .ok w) (hfit : w.length ≤ 257) :
    ∃ m, feed w s = .next (s.received p m) := by
  obtain ⟨region, rfl, h1, h2, hdec⟩ := region_of_enc_ok (Nat.le_add_left 1 _) he
  simp only [List.length_append, List.length_cons, List.length_nil] at hfit
  have hk : (2 : BitVec 9).toNat = 2 := rfl
  obtain ⟨m, n, hf, hn, hm⟩ := feed_region s (marked s.rsmBuf) 2 h1 (by omega)
  have hd : dec (slice m n.toNat ++ [FLAG1]) = .ok (seed :: scr s.params.key p seed) := by
    rw [hm, hk, slice_marked]
    exact (dec_reassembled [] h2 h1).trans hdec
  have h4 : 4 ≤ n.toNat := by omega
  have hl : n.toNat < Config.ACC_CAP := Nat.lt_succ_of_le (by omega)
  have hend := exec_rxByte_of_dec_ok (s := s.withFrame .waitTerminator m n) rfl h4 hl hd
    (scramblingTwiceRestores s.params.key p seed)
  rw [received_withFrame] at hend
  refine ⟨m.set n.toNat FLAG1 hl, ?_⟩
  rw [List.append_assoc, feed_append (feed_padded_marker hw), feed_append hf]
  exact feed_cons_of_next hend []

theorem feed_garbage_frame {s : State} (hw : s.rsmState = .waitFlag1) {g p w : List Byte}
    {seed : Byte} (h1 : FLAG1 ∉ g) (he : enc [seed] (scrambled s.params.key p seed) = .ok w)
    (hlen : w.length ≤ 257) : ∃ m, feed (g ++ w) s = .next (s.received p m) := by
  rw [scrambled_eq_scr] at he
  rw [feed_append (feed_of_waitFlag1 hw h1)]
  exact feed_frame hw he hlen

theorem delivered_params (s : State) (p : List Byte) : (s.delivered p).params = s.params := by
  cases p with
  | nil => rfl
  | cons op args =>
    obtain ⟨-, -, -, h⟩ := streamsGrow_dispatchPacket s op args
    exact h

/-- Two frames in a row: both packets are delivered in order, and two frames are counted. -/
theorem received_received (s : State) (p q : List Byte) (m n : Vector Byte Config.ACC_CAP) :
    (s.received p m).received q n = { (s.delivered p).delivered q with
      rsmState := .waitFlag1, rsmLen := 0, rsmBuf := n, rxOkCnt := s.rxOkCnt + 2
      rxLast := deliveredCode q } := by
  have h : (s.received p m).delivered q = ((s.delivered p).delivered q).withRx (s.received p m) :=
    delivered_withRx (s.delivered p) (s.received p m) q
  have hcnt : s.rxOkCnt + 1 + 1 = s.rxOkCnt + 2 := BitVec.add_assoc _ _ _
  rw [State.received, h, delivered_keeps_rx (s.delivered p) q, ← hcnt]
  rfl

/-- Settles O43: each frame with the garbage before it delivers its packet. -/
theorem streamOfTwoFramesDeliversTwoPackets : Obligations.StreamOfTwoFramesDeliversTwoPackets := by
  intro s g1 g2 pa pb wa wb sa sb hw hg1 hg2 hea hla heb hlb
  obtain ⟨m, hfa⟩ := feed_garbage_frame hw hg1 hea hla
  have hkey : (s.received pa m).params = s.params := delivered_params s pa
  rw [← hkey] at heb
  obtain ⟨n, hfb⟩ := feed_garbage_frame (s := s.received pa m) rfl hg2 heb hlb
  refine ⟨_, _, n, deliver_eq_delivered pa s, deliver_eq_delivered pb _, ?_⟩
  rw [List.append_assoc, feed_append hfa, hfb, received_received]

end Sys2Proof.Machine
end

section
/-! SUPPORT. One transmit attempt, closed (43_correlator.md R221, R222): the frame it sends, and the
whole next state on each side of the encoder's capacity. -/

open Sys2Proof.Form

namespace Sys2Proof.Machine

/-- The frame of an attempt: the drawn seed, and the pending request scrambled with it (R221). -/
def State.attemptFrame (s : State) : List Byte :=
  wireFrame [s.draw &&& 0x7F] (scrambled s.params.key s.pending (s.draw &&& 0x7F))

/-- A draw as one record update: it takes the queued byte, or counts a free value (log 6). -/
theorem afterDraw_eq_tail (s : State) : s.afterDraw = { s with
    entropyIn := s.entropyIn.tail, drawCount := s.drawCount + s.entropyIn.isEmpty.toNat } := by
  cases h : s.entropyIn with
  | nil => simpa [h] using (draw_of_nil h).2
  | cons d rest => exact (draw_of_cons h).2

/-- The attempt's frame in the machine's own terms. -/
theorem attemptFrame_eq_scr (s : State) : s.attemptFrame =
    wireFrame [s.drawnSeed] (scr s.params.key s.pending s.drawnSeed) :=
  congrArg (wireFrame [s.drawnSeed]) (scrambled_eq_scr s.params.key s.pending s.drawnSeed)

theorem seeded_eq_with (s : State) :
    s.seeded = { s.afterDraw with txcSeed := s.draw.setWidth 7 } := by
  rw [State.seeded, State.drawnSeed, seedOfDraw_setWidth]

/-- The encoder's payload limit is never what ends an attempt: PEND_BUF has 256 bytes (R222). -/
theorem length_scr_pending_le (s : State) (seed : Byte) :
    (scr s.params.key s.pending seed).length ≤ 256 := by
  rw [length_scr, State.pending, length_slice]
  exact Nat.min_le_right _ _

theorem txAttempt_of_length_le {s : State} (hf : s.attemptFrame.length ≤ 518) :
    s.txAttempt = { s.afterDraw with
      txcSeed := s.draw.setWidth 7, txOut := s.txOut ++ s.attemptFrame
      txcState := .waitLoopback } := by
  rw [attemptFrame_eq_scr] at hf ⊢
  have henc := enc_of_length_le (h := [s.drawnSeed]) (length_scr_pending_le s _) hf
  obtain ⟨out, ho, h⟩ | ⟨e, he, -⟩ := txAttempt_cases s
  · cases henc.symm.trans ho
    rw [h, seeded_eq_with, State.txEmit, afterDraw_txOut]
  · cases henc.symm.trans he

theorem txAttempt_of_lt_length {s : State} (hf : 518 < s.attemptFrame.length) :
    s.txAttempt = { s.afterDraw with
      txcSeed := s.draw.setWidth 7, txcState := .done, result := ENC_OVERFLOW } := by
  rw [attemptFrame_eq_scr] at hf
  have henc := enc_of_lt_length (h := [s.drawnSeed]) (length_scr_pending_le s _) hf
  obtain ⟨out, ho, -⟩ | ⟨e, he, h⟩ := txAttempt_cases s
  · cases henc.symm.trans ho
  · cases henc.symm.trans he
    rw [h, seeded_eq_with]
    rfl

end Sys2Proof.Machine
end

section
/-! PROOF. TXN_SEND and TXN_ACK (43_correlator.md R220 to R224): one equation per outcome. -/

open Sys2Proof.Form

namespace Sys2Proof.Machine

/-- Writing a slice of one buffer over another buffer: its bytes below its length, the old ones from
there on. -/
theorem writeFront_slice_getElem_of_lt {m n : Nat} (a : Vector Byte m) (b : Vector Byte n)
    {k i : Nat} (hk : k ≤ m) (hn : i < n) (hm : i < m) :
    (writeFront b (slice a k))[i] = if i < k then a[i] else b[i] := by
  simp only [writeFront_getElem, slice_getElem, length_slice, Nat.min_eq_left hk]
  rfl

/-- The snapshot of the request is A[0..LEN) (R220). -/
theorem beginTransaction_pending (s : State) (arg : Byte) {len : Len} (hlen : len.toNat ≤ 256) :
    (s.beginTransaction arg len).pending = slice s.a len.toNat := by
  have hl : (slice s.a len.toNat).length = len.toNat := length_slice_of_le s.a (by omega)
  have hp : (BitVec.ofNat 9 len.toNat).toNat = (slice s.a len.toNat).length := by
    rw [hl, BitVec.toNat_ofNat, Nat.mod_eq_of_lt (by omega)]
  rw [State.pending, beginTransaction_pendLen, hp]
  exact slice_writeFront s.pendBuf _ (hl.trans_le hlen)

/-- The first attempt of a transaction sends A[0..LEN), scrambled. -/
theorem beginTransaction_attemptFrame (s : State) (w : Word) (arg : Byte) {len : Len}
    (hlen : len.toNat ≤ 256) :
    ((s.issue w).beginTransaction arg len).attemptFrame =
      wireFrame [s.draw &&& 0x7F]
        (scrambled s.params.key (s.a.toList.take len.toNat) (s.draw &&& 0x7F)) := by
  rw [State.attemptFrame, beginTransaction_pending _ arg hlen]
  rfl

section
variable {arg : Byte} {len : Len} {s : State}

theorem exec_txnSend_of_locked (hs : s.txcState ≠ .idle) :
    exec (.txnSend arg len) s =
      .next { s with cmd := cmdWord 0x08 arg len, status := ERR_BUSY } :=
  if_pos hs

theorem exec_txnSend_of_bad_length (hs : s.txcState = .idle)
    (hlen : len.toNat < 1 ∨ 256 < len.toNat) :
    exec (.txnSend arg len) s =
      .next { s with cmd := cmdWord 0x08 arg len, status := ERR_LEN } :=
  (if_neg (not_not.mpr hs)).trans (if_pos hlen)

theorem exec_txnSend_of_idle (hs : s.txcState = .idle) (h1 : 1 ≤ len.toNat)
    (hlen : len.toNat ≤ 256) :
    exec (.txnSend arg len) s =
      .next (((s.issue (cmdWord 0x08 arg len)).beginTransaction arg len).txAttempt.setStatus OK) :=
  (if_neg (not_not.mpr hs)).trans (if_neg (not_or.mpr ⟨Nat.not_lt.mpr h1, Nat.not_lt.mpr hlen⟩))

theorem exec_txnAck_of_done (hs : s.txcState = .done) :
    exec (.txnAck arg len) s =
      .next { s with cmd := cmdWord 0x09 arg len, status := OK, txcState := .idle } :=
  if_neg (not_not.mpr hs)

theorem exec_txnAck_of_not_done (hs : s.txcState ≠ .done) :
    exec (.txnAck arg len) s =
      .next { s with cmd := cmdWord 0x09 arg len, status := ERR_STATE } :=
  if_pos hs

end

/-- Settles O28: the lock, the length check, then the first attempt on the snapshot of the request,
on each side of the encoder's capacity. -/
theorem txnSendResult : Obligations.TxnSendResult := by
  rintro arg len s f rfl
  rw [assembled_eq_cmdWord]
  refine ⟨exec_txnSend_of_locked, exec_txnSend_of_bad_length, fun hs h1 hlen =>
    ⟨writeFront s.pendBuf (slice s.a len.toNat),
      fun i hi => writeFront_slice_getElem_of_lt s.a s.pendBuf (hlen.trans (by decide)) hi _,
      fun hfit => ?_, fun hover => ?_⟩⟩ <;>
    rw [exec_txnSend_of_idle hs h1 hlen, ← BitVec.ofNat_toNat]
  · rw [← beginTransaction_attemptFrame s (cmdWord 0x08 arg len) arg hlen] at hfit ⊢
    rw [txAttempt_of_length_le hfit, afterDraw_eq_tail, afterDraw_eq_tail]
    rfl
  · rw [← beginTransaction_attemptFrame s (cmdWord 0x08 arg len) arg hlen] at hover
    rw [txAttempt_of_lt_length hover, afterDraw_eq_tail, afterDraw_eq_tail]
    rfl

/-- Settles O29: the two answers of TXN_ACK. -/
theorem txnAckReleasesAFinishedTransaction : Obligations.TxnAckReleasesAFinishedTransaction := by
  intro arg len s
  rw [assembled_eq_cmdWord]
  exact ⟨exec_txnAck_of_done, exec_txnAck_of_not_done⟩

end Sys2Proof.Machine
end

section
/-! PROOF. TIMEOUT (43_correlator.md R226, R227): one equation per outcome, then the retry budget by
induction on the timeouts. -/

open Sys2Proof.Form

namespace Sys2Proof.Machine

section
variable {s : State}

theorem exec_timeout_of_not_waiting (hs : s.txcState = .idle ∨ s.txcState = .done) :
    exec .timeout s = .next s :=
  if_pos (by obtain hs | hs := hs <;> simp [State.waiting, hs])

theorem exec_timeout_of_lt (hs : s.txcState = .waitLoopback ∨ s.txcState = .waitReply)
    (ha : s.attempt.toNat < s.params.maxRetries.toNat) :
    exec .timeout s = .next s.retried.txAttempt :=
  (if_neg (by rw [waiting_iff.mpr hs]; decide)).trans (if_pos ha)

theorem exec_timeout_of_le (hs : s.txcState = .waitLoopback ∨ s.txcState = .waitReply)
    (ha : s.params.maxRetries.toNat ≤ s.attempt.toNat) :
    exec .timeout s = .next { s with txcState := .done, result := TXN_TIMEOUT } :=
  (if_neg (by rw [waiting_iff.mpr hs]; decide)).trans (if_neg (Nat.not_lt.mpr ha))

/-- A retransmission whose frame the encoder accepts. -/
theorem retried_txAttempt_of_length_le (hf : s.attemptFrame.length ≤ 518) :
    s.retried.txAttempt = { s.afterDraw with
      attempt := s.attempt + 1, replySeen := false, replyLen := 0
      txcSeed := s.draw.setWidth 7, txOut := s.txOut ++ s.attemptFrame
      txcState := .waitLoopback } := by
  rw [txAttempt_of_length_le (s := s.retried) hf, afterDraw_eq_tail, afterDraw_eq_tail]
  rfl

/-- A retransmission whose frame, under the fresh seed, overflows the encoder. -/
theorem retried_txAttempt_of_lt_length (hf : 518 < s.attemptFrame.length) :
    s.retried.txAttempt = { s.afterDraw with
      attempt := s.attempt + 1, replySeen := false, replyLen := 0
      txcSeed := s.draw.setWidth 7, txcState := .done, result := ENC_OVERFLOW } := by
  rw [txAttempt_of_lt_length (s := s.retried) hf, afterDraw_eq_tail, afterDraw_eq_tail]
  rfl

end

/-- Settles O30: not waiting, retries left on each side of the encoder's capacity, and none left. -/
theorem timeoutRetransmitsOrEnds : Obligations.TimeoutRetransmitsOrEnds := by
  rintro s f rfl
  refine ⟨exec_timeout_of_not_waiting, fun hs =>
    ⟨fun ha hfit => ?_, fun ha hover => ?_, exec_timeout_of_le hs⟩⟩ <;>
    rw [exec_timeout_of_lt hs ha]
  · exact congrArg Host.Outcome.next (retried_txAttempt_of_length_le hfit)
  · exact congrArg Host.Outcome.next (retried_txAttempt_of_lt_length hover)

/-- The transaction has ended, by TXN_TIMEOUT or by an encoder overflow. -/
def State.gaveUp (s : State) : Prop :=
  s.txcState = .done ∧ (s.result = TXN_TIMEOUT ∨ s.result = ENC_OVERFLOW)

/-- ATTEMPT counts a retransmission without wrapping: the retry limit is at most five. -/
theorem retried_attempt_toNat {s : State} (ha : s.attempt.toNat < s.params.maxRetries.toNat) :
    s.retried.attempt.toNat = s.attempt.toNat + 1 := by
  have hmax := retryLimit_toNat_le s.params.maxRetries
  rw [State.retried, BitVec.toNat_add, show (1 : BitVec 4).toNat = 1 from rfl]
  omega

/-- A timeout in a wait keeps the request, and ends the transaction or uses up a retry. -/
theorem exec_timeout_of_waiting {s : State}
    (hs : s.txcState = .waitLoopback ∨ s.txcState = .waitReply) :
    ∃ t, exec .timeout s = .next t ∧ t.pendBuf = s.pendBuf ∧ t.pendLen = s.pendLen ∧
      (t.gaveUp ∨ t.txcState = .waitLoopback ∧ t.params = s.params ∧
        s.attempt.toNat < s.params.maxRetries.toNat ∧ t.attempt.toNat = s.attempt.toNat + 1) := by
  obtain ha | ha := Nat.lt_or_ge s.attempt.toNat s.params.maxRetries.toNat
  · refine ⟨_, exec_timeout_of_lt hs ha, ?_⟩
    obtain hf | hf := Nat.lt_or_ge 518 s.attemptFrame.length
    · rw [retried_txAttempt_of_lt_length hf]
      exact ⟨afterDraw_pendBuf s, afterDraw_pendLen s, .inl ⟨rfl, .inr rfl⟩⟩
    · rw [retried_txAttempt_of_length_le hf]
      exact ⟨afterDraw_pendBuf s, afterDraw_pendLen s,
        .inr ⟨rfl, afterDraw_params s, ha, retried_attempt_toNat ha⟩⟩
  · exact ⟨_, exec_timeout_of_le hs ha, rfl, rfl, .inl ⟨rfl, .inl rfl⟩⟩

/-- Nothing is left to time out once the transaction is done. -/
theorem runInstrs_timeouts_of_done {s : State} (hs : s.txcState = .done) (n : Nat) :
    runInstrs (List.replicate n .timeout) s = .next s := by
  induction n with
  | zero => rfl
  | succ n ih =>
    rw [List.replicate_succ, runInstrs_cons_of_next (exec_timeout_of_not_waiting (.inr hs)), ih]

/-- Settles O36, by induction on the retries left: a timeout ends the transaction, and the others do
nothing, or it leaves one retry less. -/
theorem retryBudgetEndsTheTransaction : Obligations.RetryBudgetEndsTheTransaction := by
  intro s n hs hn
  induction n generalizing s with
  | zero =>
    exact ⟨_, runInstrs_cons_of_next (exec_timeout_of_le hs hn) [], rfl, .inl rfl, rfl, rfl⟩
  | succ n ih =>
    obtain ⟨t, ht, hbuf, hlen, ⟨hdone, hres⟩ | ⟨hw, hpar, ha, hatt⟩⟩ := exec_timeout_of_waiting hs
    · refine ⟨t, ?_, hdone, hres, hbuf, hlen⟩
      rw [List.replicate_succ, runInstrs_cons_of_next ht, runInstrs_timeouts_of_done hdone]
    · obtain ⟨u, hu, hdone, hres, hbuf', hlen'⟩ := ih t (.inl hw) (by rw [hpar, hatt]; omega)
      refine ⟨u, ?_, hdone, hres, hbuf'.trans hbuf, hlen'.trans hlen⟩
      rw [List.replicate_succ, runInstrs_cons_of_next ht, hu]

end Sys2Proof.Machine
end

section
/-! PROOF. Dispatch (43_correlator.md R211 to R217): one equation per way a packet is taken, then
the source's example of an echo and a reply (R229). -/

namespace Sys2Proof.Machine

section
variable {s : State} {op : Byte} {args : List Byte}

/-- The packet is the echo of the request (R214). -/
theorem exec_dispatch_of_same (hl : s.txcState = .waitLoopback ∧ op = s.pendOpcode)
    (hs : (op :: args).length = s.pendLen.toNat ∧ op :: args = s.pending) :
    exec (.dispatch op args) s = .next s.loopbackOk :=
  congrArg Host.Outcome.next ((if_pos hl).trans (if_pos hs))

/-- The packet has the request's opcode and is not its echo (R215). -/
theorem exec_dispatch_of_not_same (hl : s.txcState = .waitLoopback ∧ op = s.pendOpcode)
    (hs : ¬ ((op :: args).length = s.pendLen.toNat ∧ op :: args = s.pending)) :
    exec (.dispatch op args) s = .next (s.finish TXN_LOOPBACK_MISMATCH) :=
  congrArg Host.Outcome.next ((if_pos hl).trans (if_neg hs))

/-- A reply's opcode is never the request's. -/
theorem byte_add_one_ne (x : Byte) : x + 1 ≠ x :=
  fun h => absurd (BitVec.add_right_eq_self.mp h) (by decide)

/-- The packet is the reply of a request that wants one (R213). -/
theorem exec_dispatch_of_reply (hw : s.txcState = .waitLoopback ∨ s.txcState = .waitReply)
    (hq : s.replyReq = true) (hop : op = s.pendOpcode + 1) :
    exec (.dispatch op args) s = .next (s.captureReply (op :: args)) := by
  have hne : op ≠ s.pendOpcode := hop ▸ byte_add_one_ne s.pendOpcode
  exact congrArg Host.Outcome.next
    ((if_neg fun hl => hne hl.2).trans (if_pos ⟨waiting_iff.mpr hw, hq, hop⟩))

/-- A packet that no transaction takes goes out with its category (R216). -/
theorem exec_dispatch_of_unsolicited (hl : ¬ (s.txcState = .waitLoopback ∧ op = s.pendOpcode))
    (hr : ¬ ((s.txcState = .waitLoopback ∨ s.txcState = .waitReply) ∧ s.replyReq = true ∧
      op = s.pendOpcode + 1)) :
    exec (.dispatch op args) s =
      .next { s with pktOut := s.pktOut ++ [⟨category op, op :: args⟩] } := by
  rw [← waiting_iff] at hr
  exact congrArg Host.Outcome.next ((if_neg hl).trans (if_neg hr))

theorem loopbackOk_of_no_reply_due (h : s.replyReq = false ∨ s.replySeen = true) :
    s.loopbackOk = s.finish TXN_OK :=
  if_pos h

theorem loopbackOk_of_reply_due (hq : s.replyReq = true) (hn : s.replySeen = false) :
    s.loopbackOk = { s with txcState := .waitReply } :=
  if_neg (by simp [hq, hn])

theorem captureReply_of_waitLoopback (p : List Byte) (hw : s.txcState = .waitLoopback) :
    s.captureReply p = s.withReply p :=
  if_neg (by simp [hw])

theorem captureReply_of_waitReply (p : List Byte) (hw : s.txcState = .waitReply) :
    s.captureReply p = (s.withReply p).finish TXN_OK :=
  if_pos hw

end

/-- Settles O31: the five ways through the dispatcher. -/
theorem dispatchMatchesLoopbackThenReply : Obligations.DispatchMatchesLoopbackThenReply := by
  intro op args s loopback same reply
  refine ⟨fun hl hs hno => ?_, fun hl hs hq hn => ?_, exec_dispatch_of_not_same, fun hr => ?_,
    exec_dispatch_of_unsolicited⟩
  · rw [exec_dispatch_of_same hl hs, loopbackOk_of_no_reply_due hno]
    rfl
  · rw [exec_dispatch_of_same hl hs, loopbackOk_of_reply_due hq hn]
  · obtain ⟨hw, hq, hop⟩ := hr
    have hexec := exec_dispatch_of_reply (args := args) hw hq hop
    refine ⟨writeFront s.replyBuf (op :: args), writeFront_getElem_getD s.replyBuf _,
      fun hx => ?_, fun hx => ?_⟩ <;> rw [hexec]
    · rw [captureReply_of_waitLoopback _ hx]
      rfl
    · rw [captureReply_of_waitReply _ hx]
      rfl

/-- Settles O32: in each case the packet is neither an echo nor an awaited reply. -/
theorem unsolicitedPacketsGoToThePktPort : Obligations.UnsolicitedPacketsGoToThePktPort := by
  refine fun op args s h => ⟨exec_dispatch_of_unsolicited ?_ ?_, category_of_not_mem⟩
  · rintro ⟨hw, hop⟩
    obtain hs | hs | ⟨hx, -⟩ | ⟨hx, -⟩ | ⟨hs, -⟩ := h
    · cases hw.symm.trans hs
    · cases hw.symm.trans hs
    · exact hx hop
    · exact byte_add_one_ne _ (hx.symm.trans hop)
    · cases hw.symm.trans hs
  · rintro ⟨hw, hq, hop⟩
    obtain hs | hs | ⟨-, hx⟩ | ⟨-, hq'⟩ | ⟨-, hx⟩ := h
    · simp [hs] at hw
    · simp [hs] at hw
    · exact hx hop
    · cases hq.symm.trans hq'
    · exact byte_add_one_ne _ (hop.symm.trans hx)

/-- The opcode of the pending request is its first byte (10_state.md R36). -/
theorem pendOpcode_of_take {s : State} {k : Nat} {x : Byte} {xs : List Byte}
    (h : s.pendBuf.toList.take (k + 1) = x :: xs) : s.pendOpcode = x := by
  have h0 : (s.pendBuf.toList.take (k + 1))[0]? = some x := by rw [h]; rfl
  simpa [State.pendOpcode] using h0

/-- Settles O33: the echo leaves the reply to wait for, and the reply ends the wait. -/
theorem loopbackThenReplyExample : Obligations.LoopbackThenReplyExample := by
  intro s hw hq hn hlen hbuf
  have hx : s.pendOpcode = 0x6A := pendOpcode_of_take hbuf
  have hsame : [0x6A, 0x03, 0x27, 0x01, 0x01] = s.pending := by
    rw [State.pending, hlen]
    exact hbuf.symm
  have hecho := exec_dispatch_of_same ⟨hw, hx.symm⟩ ⟨by rw [hlen]; rfl, hsame⟩
  rw [loopbackOk_of_reply_due hq hn] at hecho
  have hreply := exec_dispatch_of_reply (s := { s with txcState := .waitReply }) (op := 0x6B)
    (args := [0x03, 0x27, 0x01, 0x01]) (.inr rfl) hq (congrArg (· + 1) hx).symm
  rw [captureReply_of_waitReply _ rfl] at hreply
  refine ⟨hecho, _, (runInstrs_cons_of_next hecho _).trans (runInstrs_cons_of_next hreply []), ?_⟩
  exact ⟨slice_writeFront s.replyBuf [0x6B, 0x03, 0x27, 0x01, 0x01] (by decide), rfl, rfl, rfl, rfl⟩

end Sys2Proof.Machine
end

section
/-! PROOF. NOP, the reserved opcodes and COPY_B2A (44_control.md R250 to R252): one equation per
outcome. -/

namespace Sys2Proof.Machine

/-- R251: a reserved word writes CMD and the code. -/
theorem next_badCommand (s : State) (w : Word) :
    (.next (s.badCommand w) : Result) = .next { s with cmd := w, status := ERR_BADCMD } := rfl

theorem exec_nop (arg : Byte) (len : Len) (s : State) :
    exec (.nop arg len) s = .next { s with cmd := cmdWord 0x00 arg len, status := OK } := rfl

theorem exec_copyB2a_of_gt {arg : Byte} {len : Len} {s : State} (h : 1024 < len.toNat) :
    exec (.copyB2a arg len) s =
      .next { s with cmd := cmdWord 0x06 arg len, status := ERR_LEN } :=
  if_pos h

/-- Settles O8: NOP's equation. -/
theorem nopWritesCmdAndStatusOnly : Obligations.NopWritesCmdAndStatusOnly := by
  intro arg len s
  rw [assembled_eq_cmdWord]
  exact exec_nop arg len s

/-- Settles O9: each reserved row answers `State.badCommand` of its word. -/
theorem reservedWordsReportBadCommand : Obligations.ReservedWordsReportBadCommand := fun s =>
  ⟨fun _ => next_badCommand s _, fun _ => next_badCommand s _, fun _ => next_badCommand s _,
    fun _ => next_badCommand s _, fun _ => next_badCommand s _, fun _ => next_badCommand s _,
    fun _ => next_badCommand s _⟩

/-- Settles O15: the two sides of the length check, and A byte by byte. -/
theorem copyB2aResult : Obligations.CopyB2aResult := by
  intro arg len s
  rw [assembled_eq_cmdWord]
  exact ⟨fun h => ⟨_, exec_copyB2a_of_le h, writeFront_slice_getElem s.b s.a h⟩,
    exec_copyB2a_of_gt⟩

end Sys2Proof.Machine
end

section
/-! PROOF. A word write of CMD (44_control.md R253, 30_encoding.md R90): `runCommand` does what the
word's command does, so a command does the same however it is issued. -/

namespace Sys2Proof.Machine

/-! ### Reserved words (R251) -/

theorem cmdOp_toNat (w : Word) : (cmdOp w).toNat = w.toNat / 2 ^ 24 :=
  (extractLsb'_top_eq_iff (m := 8) (k := 24).mp rfl).symm

/-- The top bits of a word bound it from below. -/
theorem le_toNat_append {m n k : Nat} {x : BitVec m} (y : BitVec n) (h : k ≤ x.toNat * 2 ^ n) :
    k ≤ (x ++ y).toNat := by
  rw [toNat_append_eq_add]
  exact le_add_right h

theorem runCommand_of_reserved {w : Word} (h : cmdOp w = 0x07 ∨ 0x0A ≤ (cmdOp w).toNat)
    (s : State) : runCommand w s = .next (s.badCommand w) := by
  have hne {op : Byte} (hop : op ≠ 0x07 ∧ op.toNat < 0x0A) : cmdOp w ≠ op := by
    rintro rfl
    exact h.elim hop.1 (Nat.not_le.mpr hop.2)
  simp (disch := decide) only [runCommand, hne, reduceIte]

/-- The words of the reserved rows from OP 0x0A on. -/
theorem runCommand_of_le {w : Word} (h : 0x0A000000 ≤ w.toNat) (s : State) :
    runCommand w s = .next (s.badCommand w) :=
  runCommand_of_reserved (.inr (by rw [cmdOp_toNat]; omega)) s

/-! ### Every command -/

/-- A write of a command's word runs that command. -/
theorem runCommand_of_commandWord? {i : Instr} {w : Word} (h : i.commandWord? = some w) (s : State) :
    runCommand w s = exec i s := by
  cases i <;> cases h
  case reserved07 rest => exact runCommand_of_reserved (.inl BitVec.extractLsb'_append_eq_left) s
  case reserved0A rest => exact runCommand_of_le (le_toNat_append rest (by decide)) s
  case reserved0C rest => exact runCommand_of_le (le_toNat_append rest (by decide)) s
  case reserved10 rest => exact runCommand_of_le (le_toNat_append rest (by decide)) s
  case reserved20 rest => exact runCommand_of_le (le_toNat_append rest (by decide)) s
  case reserved40 rest => exact runCommand_of_le (le_toNat_append rest (by decide)) s
  case reserved80 rest => exact runCommand_of_le (le_toNat_append rest (by decide)) s
  -- the nine defined OPs
  all_goals simp [runCommand, exec]

theorem exec_memWrite_cmd (w : Word) (s : State) :
    exec (.memWrite 0x0000 .word w) s = runCommand w s := rfl

theorem exec_of_issuedWord? {i : Instr} {w : Word} (h : i.issuedWord? = some w) (s : State) :
    exec i s = runCommand w s := by
  unfold Instr.issuedWord? at h
  split at h
  next addr v =>
    split at h <;> cases h
    subst addr
    exact exec_memWrite_cmd w s
  next => exact (runCommand_of_commandWord? h s).symm

/-- Settles O46: the word of each defined OP is the word of its command, and the word of a reserved
OP is a bad command. -/
theorem cmdWriteRunsTheCommand : Obligations.CmdWriteRunsTheCommand := by
  refine ⟨fun w s => runCommand_of_commandWord? (commandWord?_decodeCommand w) s, fun arg len s => ?_⟩
  simp only [assembled_eq_cmdWord, exec_memWrite_cmd]
  refine ⟨runCommand_of_commandWord? rfl s, runCommand_of_commandWord? rfl s,
    runCommand_of_commandWord? rfl s, runCommand_of_commandWord? rfl s,
    runCommand_of_commandWord? rfl s, runCommand_of_commandWord? rfl s,
    runCommand_of_commandWord? rfl s, runCommand_of_commandWord? rfl s,
    runCommand_of_commandWord? rfl s, fun op hop => ?_⟩
  rw [runCommand_of_reserved (by rwa [cmdOp_cmdWord]), next_badCommand]

end Sys2Proof.Machine
end

section
/-! PROOF. What holds of every command, however it is issued (44_control.md R253, R254): it ends
normally, and by the cases of `CommandEffect` CMD holds its word and a code other than OK is all that
it reports. -/

namespace Sys2Proof.Machine

/-! ### Commands end normally (R253) -/

theorem exists_next_ite {p : Prop} [Decidable p] {x y : Result} (hx : ∃ t, x = .next t)
    (hy : ∃ t, y = .next t) : ∃ t, (if p then x else y) = .next t := by
  split
  · exact hx
  · exact hy

/-- A command is a next state, or a length or state check in front of next states. -/
theorem exec_next_of_commandWord? {i : Instr} {w : Word} (h : i.commandWord? = some w) (s : State) :
    ∃ t, exec i s = .next t := by
  cases i with
  | nop | reserved07 | reserved0A | reserved0C | reserved10 | reserved20 | reserved40 | reserved80 =>
    exact ⟨_, rfl⟩
  | scramble | descramble | encode | encodeH | decode | copyB2a | txnAck =>
    exact exists_next_ite ⟨_, rfl⟩ ⟨_, rfl⟩
  | txnSend => exact exists_next_ite ⟨_, rfl⟩ (exists_next_ite ⟨_, rfl⟩ ⟨_, rfl⟩)
  | _ => cases h

/-! ### What a command leaves -/

theorem CommandEffect.cmd_eq {w : Word} {s t : State} (h : CommandEffect w s t) : t.cmd = w := by
  cases h with
  | report | output | copy | ack => rfl
  | scramble => simp
  | send arg len =>
    obtain ⟨_, _, _, ⟨_, ht⟩ | ⟨_, ht⟩⟩ := txAttempt_eq_with ((s.issue w).beginTransaction arg len) <;>
      rw [ht] <;> rfl

/-- R254: every effect but a report ends with STATUS OK. -/
theorem CommandEffect.eq_of_status_ne_ok {w : Word} {s t : State} (h : CommandEffect w s t)
    (ht : t.status ≠ OK) : t = { s with cmd := w, status := t.status } := by
  cases h with
  | report => rfl
  | output | scramble | copy | send | ack => exact absurd rfl ht

theorem commandEffect_of_issuedWord? {i : Instr} {w : Word} {s t : State}
    (hw : i.issuedWord? = some w) (h : exec i s = .next t) : CommandEffect w s t :=
  runCommand_effect ((exec_of_issuedWord? hw s).symm.trans h)

/-- Settles O26: the operation does what the command of its word does, and that command ends. -/
theorem everyCommandCompletes : Obligations.EveryCommandCompletes := by
  intro i w s hw
  have hd := commandWord?_decodeCommand w
  obtain ⟨t, ht⟩ := exec_next_of_commandWord? hd s
  have h : exec i s = .next t :=
    (exec_of_issuedWord? hw s).trans ((runCommand_of_commandWord? hd s).trans ht)
  exact ⟨t, h, (commandEffect_of_issuedWord? hw h).cmd_eq⟩

/-- Settles O27: of the effects of a command only a report leaves a code other than OK. -/
theorem failingCommandWritesOnlyStatusAndCmd : Obligations.FailingCommandWritesOnlyStatusAndCmd :=
  fun _ _ _ _ hw h => (commandEffect_of_issuedWord? hw h).eq_of_status_ne_ok

end Sys2Proof.Machine
end

section
/-! SUPPORT. The kinds of operations, and what an operation does to STATUS and IRQ_EN: a command, a CTRL
write and RESET write them, and nothing else does (10_state.md R23, R26). -/

namespace Sys2Proof.Machine

/-- An operation issues a command word, carries a packet, or is one of the other events. -/
theorem instr_kind_cases (i : Instr) :
    (∃ w, i.issuedWord? = some w) ∨ (∃ op args, i.packet? = some (op, args)) ∨
    (∃ b, i = .rxByte b) ∨ i = .timeout ∨ i = .reset ∨ (∃ addr n, i = .memRead addr n) ∨
    ∃ addr n v, i = .memWrite addr n v ∧ i.issuedWord? = none := by
  cases i with
  | rxByte b => exact .inr (.inr (.inl ⟨b, rfl⟩))
  | timeout => exact .inr (.inr (.inr (.inl rfl)))
  | reset => exact .inr (.inr (.inr (.inr (.inl rfl))))
  | memRead addr n => exact .inr (.inr (.inr (.inr (.inr (.inl ⟨addr, n, rfl⟩)))))
  | memWrite addr n v =>
    cases hw : (Instr.memWrite addr n v).issuedWord? with
    | some w => exact .inl ⟨w, rfl⟩
    | none => exact .inr (.inr (.inr (.inr (.inr (.inr ⟨addr, n, v, rfl, rfl⟩)))))
  | nop | scramble | descramble | encode | encodeH | decode | copyB2a | txnSend | txnAck
  | reserved07 | reserved0A | reserved0C | reserved10 | reserved20 | reserved40 | reserved80 =>
    exact .inl ⟨_, rfl⟩
  -- the packets
  | _ => exact .inr (.inl ⟨_, _, rfl⟩)

/-- A host write that issues no command sets IRQ_EN or touches at most A (20_memory.md R66 to R71). -/
theorem exec_memWrite_of_issuedWord?_eq_none {addr : Addr} {n : Width} {v : Word}
    (hw : (Instr.memWrite addr n v).issuedWord? = none) (s : State) :
    (addr = 0x0010 ∧ n = .word ∧
      exec (.memWrite addr n v) s = .next { s with irqEn := v.getLsbD 0 }) ∨
    ∃ a, exec (.memWrite addr n v) s = .next { s with a := a } := by
  cases n with
  | byte =>
    rw [exec_memWrite, execMemWrite, State.writeByte]
    split
    · exact .inr ⟨_, rfl⟩
    · exact .inr ⟨s.a, rfl⟩
  | word =>
    have h0 : addr.toNat ≠ 0x000 := fun ha => by
      obtain rfl : addr = 0 := BitVec.eq_of_toNat_eq ha
      cases hw
    by_cases ha : addr.toNat = 0x010
    · exact .inl ⟨BitVec.eq_of_toNat_eq ha, rfl, (if_neg h0).trans (if_pos ha)⟩
    · exact .inr ⟨s.a, (if_neg h0).trans (if_neg ha)⟩

/-- The dispatcher leaves the host side as it is (70_reset_and_hazards.md R321). -/
theorem dispatchPacket_keeps_host (s : State) (op : Byte) (args : List Byte) :
    s.dispatchPacket op args = (s.dispatchPacket op args).withHost s := by
  obtain ⟨-, -, -, -, h⟩ | ⟨-, -, -, h⟩ | ⟨-, -, -, -, h⟩ | ⟨-, -, h⟩ :=
    dispatchPacket_cases s op args <;> rw [h]
  · obtain ⟨-, h⟩ | ⟨-, -, h⟩ := loopbackOk_cases s <;> rw [h] <;> rfl
  · rfl
  · obtain ⟨-, h⟩ | ⟨-, h⟩ := captureReply_cases s (op :: args) <;> rw [h] <;> rfl
  · rfl

theorem CommandEffect.status_mem {w : Word} {s t : State} (h : CommandEffect w s t) :
    t.status ∈ statusCodes := by
  have hok : OK ∈ statusCodes := by decide
  cases h with
  | report c hc => exact hc
  | output | scramble | copy | send | ack => exact hok

theorem CommandEffect.irqEn_eq {w : Word} {s t : State} (h : CommandEffect w s t) :
    t.irqEn = s.irqEn := by
  cases h with
  | report | output | copy | ack => rfl
  | scramble => exact afterDraw_irqEn (s.issue w)
  | send arg len =>
    obtain ⟨_, _, _, ⟨_, ht⟩ | ⟨_, ht⟩⟩ := txAttempt_eq_with ((s.issue w).beginTransaction arg len) <;>
      rw [ht] <;> rfl

section
variable {i : Instr} {s t : State}

theorem execRxByte_keeps_status_irqEn {b : Byte} (h : execRxByte b s = .next t) :
    t.status = s.status ∧ t.irqEn = s.irqEn := by
  obtain ⟨x, rfl⟩ | ⟨x, y, op, args, -, rfl⟩ := execRxByte_eq_withRx h
  · exact ⟨rfl, rfl⟩
  · rw [dispatchPacket_keeps_host]
    exact ⟨rfl, rfl⟩

theorem execTimeout_keeps_status_irqEn (h : execTimeout s = .next t) :
    t.status = s.status ∧ t.irqEn = s.irqEn := by
  obtain ⟨-, rfl⟩ | ⟨-, -, rfl⟩ | ⟨-, -, rfl⟩ := execTimeout_next h
  · exact ⟨rfl, rfl⟩
  · obtain ⟨_, _, _, ⟨_, ht⟩ | ⟨_, ht⟩⟩ := txAttempt_eq_with s.retried <;> rw [ht] <;> exact ⟨rfl, rfl⟩
  · exact ⟨rfl, rfl⟩

/-- What an operation does to STATUS and IRQ_EN. -/
theorem exec_status_irqEn_cases (h : exec i s = .next t) :
    (∃ w, CommandEffect w s t) ∨ (i = .reset ∧ t = s.afterReset) ∨
    (∃ v, i = .memWrite 0x0010 .word v ∧ t = { s with irqEn := v.getLsbD 0 }) ∨
    (t.status = s.status ∧ t.irqEn = s.irqEn) := by
  obtain ⟨w, hw⟩ | ⟨op, args, hp⟩ | ⟨b, rfl⟩ | rfl | rfl | ⟨addr, n, rfl⟩ | ⟨addr, n, v, rfl, hw⟩ :=
    instr_kind_cases i
  · exact .inl ⟨w, commandEffect_of_issuedWord? hw h⟩
  · rw [exec_of_packet s hp, dispatchPacket_keeps_host] at h
    cases h
    exact .inr (.inr (.inr ⟨rfl, rfl⟩))
  · exact .inr (.inr (.inr (execRxByte_keeps_status_irqEn h)))
  · exact .inr (.inr (.inr (execTimeout_keeps_status_irqEn h)))
  · cases h
    exact .inr (.inl ⟨rfl, rfl⟩)
  · cases h
    exact .inr (.inr (.inr ⟨rfl, rfl⟩))
  · obtain ⟨rfl, rfl, ht⟩ | ⟨a, ht⟩ := exec_memWrite_of_issuedWord?_eq_none hw s <;>
      cases ht.symm.trans h
    · exact .inr (.inr (.inl ⟨v, rfl, rfl⟩))
    · exact .inr (.inr (.inr ⟨rfl, rfl⟩))

end

end Sys2Proof.Machine
end

section
/-! PROOF. The code registers hold their own codes (60_exceptions.md R270), register by register: STATUS by
what commands report, RX_LAST by what a reassembled frame can decode to, RESULT by the outcomes of a
transaction. -/

namespace Sys2Proof.Machine

/-! ### STATUS -/

theorem status_mem_exec {i : Instr} {s t : State} (hs : s.status ∈ statusCodes)
    (h : exec i s = .next t) : t.status ∈ statusCodes := by
  obtain ⟨w, hc⟩ | ⟨-, rfl⟩ | ⟨v, -, rfl⟩ | ⟨ht, -⟩ := exec_status_irqEn_cases h
  · exact hc.status_mem
  · have hok : OK ∈ statusCodes := by decide
    exact hok
  · exact hs
  · exact ht ▸ hs

/-! ### RX_LAST (42_reassembler.md R193) -/

/-- A frame the reassembler ends has its marker and terminator and is not too short, so it fails only by
its escapes or its checksum. -/
theorem dec_accumulated_error {s : State} {e : CodecError} (hs : RsmInv s)
    (hw : s.rsmState = .waitTerminator) (h4 : 4 ≤ s.rsmLen.toNat)
    (he : dec (s.accumulated ++ [FLAG1]) = .error e) :
    e = .invalidEscape ∨ e = .checksumMismatch := by
  obtain ⟨region, hacc, h1, hlen⟩ := accumulated_eq_of_rsmInv hs hw
  rw [hacc] at he
  obtain ⟨seed, d, hd⟩ | hd | hd := reassembledFrameOutcomes region (by omega) h1 <;>
    cases hd.symm.trans he
  · exact .inl rfl
  · exact .inr rfl

theorem acceptFrame_rxLast (s : State) (seed : Byte) (d : List Byte) :
    (s.acceptFrame seed d).rxLast = RX_EMPTY ∨ (s.acceptFrame seed d).rxLast = RX_OK := by
  rw [acceptFrame_eq_received rfl]
  cases scr s.params.key d seed with
  | nil => exact .inl rfl
  | cons => exact .inr rfl

theorem rxLast_mem_execRxByte {b : Byte} {s t : State} (hs : RsmInv s) (hc : s.rxLast ∈ rxCodes)
    (h : execRxByte b s = .next t) : t.rxLast ∈ rxCodes := by
  obtain rfl | rfl | rfl | ⟨hl, -, -, rfl⟩ | ⟨hl, -, -, rfl⟩ | ⟨hl, hw, -, h4, hcf⟩ :=
    execRxByte_next h
  · exact hc
  · exact hc
  · exact hc
  · exact hc
  · obtain ⟨-, ho⟩ | ⟨-, ho⟩ := checkOverflow_cases (s.appended b hl) <;> rw [ho]
    · have hov : RX_BUFFER_OVERFLOW ∈ rxCodes := by decide
      exact hov
    · exact hc
  · obtain ⟨seed, d, -, hn⟩ | ⟨-, hn⟩ | ⟨e, he, hn⟩ := completeFrame_cases (s.appended FLAG1 hl) <;>
      cases hn.symm.trans hcf
    · obtain ht | ht := acceptFrame_rxLast (s.appended FLAG1 hl) seed d <;> rw [ht] <;> decide
    · rw [appended_accumulated] at he
      rw [startFrame_rxLast, logBadFrame_rxLast]
      obtain rfl | rfl := dec_accumulated_error hs hw h4 he <;> decide

theorem rxLast_mem_exec {i : Instr} {s t : State} (hs : RsmInv s) (hc : s.rxLast ∈ rxCodes)
    (h : exec i s = .next t) : t.rxLast ∈ rxCodes := by
  by_cases hr : i = .reset
  · subst hr
    cases h
    have h0 : 0x00 ∈ rxCodes := by decide
    exact h0
  by_cases hb : ∃ b, i = .rxByte b
  · obtain ⟨b, rfl⟩ := hb
    exact rxLast_mem_execRxByte hs hc h
  · rw [exec_keeps_rx h hr (not_exists.mp hb)]
    exact hc

/-! ### RESULT (43_correlator.md R218, R222) -/

/-- The encoder's only error in an attempt is the overflow, since a request is never too long. -/
theorem txAttempt_result (s : State) :
    s.txAttempt.result = s.result ∨ s.txAttempt.result = ENC_OVERFLOW := by
  obtain hf | hf := Nat.lt_or_ge 518 s.attemptFrame.length
  · exact .inr (by rw [txAttempt_of_lt_length hf])
  · exact .inl (by rw [txAttempt_of_length_le hf]; exact afterDraw_result s)

theorem result_mem_txAttempt {s : State} (hs : s.result ∈ resultCodes) :
    s.txAttempt.result ∈ resultCodes := by
  obtain h | h := txAttempt_result s <;> rw [h]
  · exact hs
  · decide

theorem dispatchPacket_result (s : State) (op : Byte) (args : List Byte) :
    (s.dispatchPacket op args).result = s.result ∨ (s.dispatchPacket op args).result = TXN_OK ∨
      (s.dispatchPacket op args).result = TXN_LOOPBACK_MISMATCH := by
  obtain ⟨-, -, -, -, h⟩ | ⟨-, -, -, h⟩ | ⟨-, -, -, -, h⟩ | ⟨-, -, h⟩ :=
    dispatchPacket_cases s op args <;> rw [h]
  · obtain ⟨-, h⟩ | ⟨-, -, h⟩ := loopbackOk_cases s <;> rw [h]
    · exact .inr (.inl rfl)
    · exact .inl rfl
  · exact .inr (.inr rfl)
  · obtain ⟨-, h⟩ | ⟨-, h⟩ := captureReply_cases s (op :: args) <;> rw [h]
    · exact .inr (.inl rfl)
    · exact .inl rfl
  · exact .inl rfl

theorem result_mem_dispatchPacket {s : State} (op : Byte) (args : List Byte)
    (hs : s.result ∈ resultCodes) : (s.dispatchPacket op args).result ∈ resultCodes := by
  obtain h | h | h := dispatchPacket_result s op args <;> rw [h]
  · exact hs
  · decide
  · decide

theorem result_mem_exec {i : Instr} {s t : State} (hs : s.result ∈ resultCodes)
    (h : exec i s = .next t) : t.result ∈ resultCodes := by
  have hnone : NONE ∈ resultCodes := by decide
  cases exec_effect h with
  | host | ack | read => exact hs
  | send w arg len =>
    exact result_mem_txAttempt (s := (s.issue w).beginTransaction arg len) hnone
  | packet op args => exact result_mem_dispatchPacket op args hs
  | receive b _ _ h =>
    obtain ⟨x, rfl⟩ | ⟨x, y, op, args, -, rfl⟩ := execRxByte_eq_withRx h
    · exact hs
    · exact result_mem_dispatchPacket (s := s.withRx x) op args hs
  | timeout _ _ h =>
    have htimeout : TXN_TIMEOUT ∈ resultCodes := by decide
    obtain ⟨-, rfl⟩ | ⟨-, -, rfl⟩ | ⟨-, -, rfl⟩ := execTimeout_next h
    · exact hs
    · exact result_mem_txAttempt (s := s.retried) hs
    · exact htimeout
  | reset => exact hnone

/-! ### All three -/

theorem codesInv_exec {i : Instr} {s t : State} (hs : RsmInv s) (hc : CodesInv s)
    (h : exec i s = .next t) : CodesInv t := by
  obtain ⟨hst, hrx, hres⟩ := hc
  exact ⟨status_mem_exec hst h, rxLast_mem_exec hs hrx h, result_mem_exec hres h⟩

/-- Settles O52: each register keeps its codes; the reassembler's invariant, which says what frames it
ends, is kept along with them. -/
theorem codeRegistersHoldTheirOwnCodes : Obligations.CodeRegistersHoldTheirOwnCodes := by
  intro s t hs hc h
  have hboth : RsmInv t ∧ CodesInv t :=
    step_induct (P := fun s => RsmInv s ∧ CodesInv s) (fun _ _ hs => hs)
      (fun _ _ _ _ _ ⟨hs, hc⟩ hx => ⟨rsmInv_exec hs hx, codesInv_exec hs hc hx⟩) ⟨hs, hc⟩ h
  exact hboth.2

end Sys2Proof.Machine
end

section
/-! PROOF. No operation stops the FCC (60_exceptions.md R275): where the reassembler's invariant holds, every
operation ends normally. -/

namespace Sys2Proof.Machine

/-- Neither unreachable length comes up: an append has room, and a frame that ends decodes to a seed byte
or fails (20_memory.md R61, 42_reassembler.md R193). -/
theorem exec_rxByte_next_of_rsmInv {s : State} (hs : RsmInv s) (b : Byte) :
    ∃ t, exec (.rxByte b) s = .next t := by
  by_cases h1 : b = FLAG1
  · obtain ⟨t, ht, -⟩ := noFlagIsLost s hs
    exact ⟨t, h1 ▸ ht⟩
  obtain ⟨-, hf, ht⟩ := hs
  cases hw : s.rsmState with
  | waitFlag1 => exact ⟨_, exec_rxByte_of_waitFlag1 hw h1⟩
  | waitFlag2 =>
    by_cases h2 : b = FLAG2
    · obtain ⟨hl, -⟩ := hf hw
      exact ⟨_, h2 ▸ exec_rxByte_flag2_of_waitFlag2 hw hl⟩
    · exact ⟨_, exec_rxByte_of_waitFlag2 hw h2 h1⟩
  | waitTerminator =>
    obtain ⟨-, h255, -⟩ := ht hw
    exact ⟨_, exec_rxByte_of_waitTerminator hw h1 (Nat.lt_succ_of_le h255)⟩

theorem exec_next_of_rsmInv {s : State} (hs : RsmInv s) (i : Instr) : ∃ t, exec i s = .next t := by
  obtain ⟨w, hw⟩ | ⟨op, args, hp⟩ | ⟨b, rfl⟩ | rfl | rfl | ⟨addr, n, rfl⟩ | ⟨addr, n, v, rfl, hw⟩ :=
    instr_kind_cases i
  · obtain ⟨t, ht, -⟩ := everyCommandCompletes i w s hw
    exact ⟨t, ht⟩
  · exact ⟨_, exec_of_packet s hp⟩
  · exact exec_rxByte_next_of_rsmInv hs b
  · exact exists_next_ite ⟨_, rfl⟩ (exists_next_ite ⟨_, rfl⟩ ⟨_, rfl⟩)
  · exact ⟨_, rfl⟩
  · exact ⟨_, rfl⟩
  · obtain ⟨-, -, ht⟩ | ⟨a, ht⟩ := exec_memWrite_of_issuedWord?_eq_none hw s <;> exact ⟨_, ht⟩

/-- Settles O55: there is no event, or one that is not decoded, or one whose operation ends normally. -/
theorem noStepStopsTheMachine : Obligations.NoStepStopsTheMachine := by
  intro s hs
  cases hin : s.inputs with
  | nil => exact .inl ⟨s, step_of_inputs_nil hin⟩
  | cons e rest =>
    cases hd : decode e with
    | error r => exact .inr ⟨e, rest, r, rfl, hd⟩
    | ok i =>
      obtain ⟨t, ht⟩ := exec_next_of_rsmInv (s := { s with inputs := rest }) hs i
      exact .inl ⟨t, (step_of_decode_ok hin hd).trans ht⟩

end Sys2Proof.Machine
end

section
/-! PROOF. The level of the IRQ line (60_exceptions.md R281): how DONE is entered and left, and what writes
IRQ_EN. -/

namespace Sys2Proof.Machine

theorem irq_eq_true_iff (s : State) : s.irq = true ↔ s.irqEn = true ∧ s.txcState = .done := by
  simp [State.irq]

theorem irq_eq_false_of_ne_done {s : State} (h : s.txcState ≠ .done) : s.irq = false := by
  simp [State.irq, h]

/-- In DONE every packet is unsolicited (43_correlator.md R217). -/
theorem dispatchPacket_of_done {s : State} (hs : s.txcState = .done) (op : Byte) (args : List Byte) :
    s.dispatchPacket op args = s.pktEmit (category op) (op :: args) := by
  simp [State.dispatchPacket, State.waiting, hs]

/-- An operation that runs an opcode issues a word of that opcode. -/
theorem exists_issuedWord?_of_runsOp {i : Instr} {op : Byte} (h : i.runsOp op = true) :
    ∃ arg len, i.issuedWord? = some (cmdWord op arg len) := by
  unfold Instr.runsOp at h
  split at h
  next w hw => exact ⟨cmdArg w, cmdLen w, (cmdWord_of_cmdOp (of_decide_eq_true h)).symm ▸ hw⟩
  next => cases h

section
variable {i : Instr} {s t : State} (h : exec i s = .next t)
include h

theorem exec_keeps_irqEn (hr : i ≠ .reset) (hc : ∀ v, i ≠ .memWrite 0x0010 .word v) :
    t.irqEn = s.irqEn := by
  obtain ⟨w, he⟩ | ⟨hi, -⟩ | ⟨v, hi, -⟩ | ⟨-, ht⟩ := exec_status_irqEn_cases h
  · exact he.irqEn_eq
  · exact absurd hi hr
  · exact absurd hi (hc v)
  · exact ht

/-- A received packet, a timeout or TXN_SEND enters DONE, and nothing else (43_correlator.md R218). -/
theorem cause_of_entering_done (hs : s.txcState ≠ .done) (ht : t.txcState = .done) :
    i.receives = true ∨ i = .timeout ∨ i.runsOp 0x08 = true := by
  cases exec_effect h with
  | host | read => exact absurd ht hs
  | ack | reset => cases ht
  | send _ _ _ hi => exact .inr (.inr hi)
  | packet _ _ hi => exact .inl (receives_of_packet? hi)
  | receive _ _ hi => exact .inl (hi ▸ rfl)
  | timeout _ hi => exact .inr (.inl hi)

/-- DONE is left by TXN_ACK or RESET only (43_correlator.md R224, 70_reset_and_hazards.md R310). -/
theorem stays_done_or_ack_or_reset (hs : s.txcState = .done) :
    t.txcState = .done ∨ i.runsOp 0x09 = true ∨ i = .reset := by
  cases exec_effect h with
  | host | read => exact .inl hs
  | send _ _ _ _ hidle => cases hs.symm.trans hidle
  | ack _ hi => exact .inr (.inl hi)
  | packet op args => rw [dispatchPacket_of_done hs]; exact .inl hs
  | receive b _ _ h =>
    obtain ⟨x, rfl⟩ | ⟨x, y, op, args, -, rfl⟩ := execRxByte_eq_withRx h
    · exact .inl hs
    · rw [dispatchPacket_of_done (s := s.withRx x) hs]; exact .inl hs
  | timeout _ hi h =>
    cases (exec_timeout_of_not_waiting (.inr hs)).symm.trans h
    exact .inl hs
  | reset hi => exact .inr (.inr hi)

/-- TXN_ACK releases DONE, and no other state is DONE (43_correlator.md R224). -/
theorem not_done_of_runsOp_ack (hi : i.runsOp 0x09 = true) : t.txcState ≠ .done := by
  obtain ⟨arg, len, hw⟩ := exists_issuedWord?_of_runsOp hi
  have hack : exec (.txnAck arg len) s = .next t :=
    (runCommand_of_commandWord? rfl s).symm.trans ((exec_of_issuedWord? hw s).symm.trans h)
  by_cases hs : s.txcState = .done
  · cases (exec_txnAck_of_done hs).symm.trans hack
    exact nofun
  · cases (exec_txnAck_of_not_done hs).symm.trans hack
    exact hs

theorem cause_of_irq_rise (hs : s.irq = false) (ht : t.irq = true) :
    (s.irqEn = true ∧ s.txcState ≠ .done ∧ t.txcState = .done ∧
      (i.receives = true ∨ i = .timeout ∨ i.runsOp 0x08 = true)) ∨
    (s.irqEn = false ∧ s.txcState = .done ∧ ∃ v, i = .memWrite 0x0010 .word v) := by
  obtain ⟨hen, hdone⟩ := (irq_eq_true_iff t).mp ht
  have hlow : ¬ (s.irqEn = true ∧ s.txcState = .done) := by simp [← irq_eq_true_iff, hs]
  by_cases hc : ∃ v, i = .memWrite 0x0010 .word v
  · obtain ⟨v, rfl⟩ := hc
    cases h
    exact .inr ⟨eq_false_of_ne_true fun he => hlow ⟨he, hdone⟩, hdone, v, rfl⟩
  · have hr : i ≠ .reset := by
      rintro rfl
      cases h
      cases hdone
    have hen' : s.irqEn = true := exec_keeps_irqEn h hr (not_exists.mp hc) ▸ hen
    have hnd : s.txcState ≠ .done := fun hd => hlow ⟨hen', hd⟩
    exact .inl ⟨hen', hnd, hdone, cause_of_entering_done h hnd hdone⟩

theorem cause_of_irq_fall (hs : s.irq = true) (ht : t.irq = false) :
    i.runsOp 0x09 = true ∨ i = .reset ∨ ∃ v, i = .memWrite 0x0010 .word v := by
  obtain ⟨hen, hdone⟩ := (irq_eq_true_iff s).mp hs
  by_contra hno
  simp only [not_or, not_exists] at hno
  obtain ⟨hack, hr, hc⟩ := hno
  have hdone' : t.txcState = .done :=
    (stays_done_or_ack_or_reset h hdone).resolve_right (not_or.mpr ⟨hack, hr⟩)
  have hhigh : t.irq = true :=
    (irq_eq_true_iff t).mpr ⟨(exec_keeps_irqEn h hr hc).trans hen, hdone'⟩
  cases ht.symm.trans hhigh

theorem irq_low_after_clearing (hi : i.runsOp 0x09 = true ∨ i = .reset ∨
    ∃ v, v.getLsbD 0 = false ∧ i = .memWrite 0x0010 .word v) : t.irq = false := by
  obtain hack | rfl | ⟨v, hv, rfl⟩ := hi
  · exact irq_eq_false_of_ne_done (not_done_of_runsOp_ack h hack)
  · cases h
    rfl
  · cases h
    simp only [State.irq, hv, Bool.false_and]

end

/-- Settles O60: the line rises and falls with DONE and with IRQ_EN, and what writes these two is known. -/
theorem irqRisesOnlyOnAnOutcome : Obligations.IrqRisesOnlyOnAnOutcome := fun _ _ t h =>
  ⟨cause_of_irq_rise h, cause_of_irq_fall h, irq_eq_true_iff t, irq_low_after_clearing h⟩

end Sys2Proof.Machine
end

section
/-! PROOF. RESET (70_reset_and_hazards.md R310, 10_state.md R54): each buffer byte is this reset's
free value of its host address (log 7). -/

namespace Sys2Proof.Machine

theorem resetBytes_getElem (n base : Nat) {k i : Nat} (hi : i < (resetBytes n base k).length) :
    (resetBytes n base k)[i] = Config.resetByte n (base + i) := by
  induction k generalizing base i with
  | zero => cases hi
  | succ k ih =>
    cases i with
    | zero => rfl
    | succ i =>
      calc (resetBytes n (base + 1) k)[i]'(Nat.lt_of_succ_lt_succ hi)
        _ = Config.resetByte n (base + 1 + i) := ih _ _
        _ = Config.resetByte n (base + (i + 1)) := by rw [Nat.add_assoc, Nat.add_comm 1]

theorem resetBuffer_getElem (n base : Nat) {k i : Nat} (hi : i < k) :
    (resetBuffer n base k)[i] = Config.resetByte n (base + i) :=
  resetBytes_getElem n base _

/-- Settles O48: the model writes RESET's state out, and its buffers hold the free values of their
addresses. -/
theorem resetWritesEveryRegister : Obligations.ResetWritesEveryRegister :=
  ⟨fun _ => ⟨_, _, _, _, _, rfl,
      fun _ hi => ⟨resetBuffer_getElem _ _ hi, resetBuffer_getElem _ _ hi⟩,
      fun _ hi =>
        ⟨resetBuffer_getElem _ _ hi, resetBuffer_getElem _ _ hi, resetBuffer_getElem _ _ hi⟩⟩,
    rfl, rfl, rfl, rfl, rfl, rfl, rfl, rfl, rfl, rfl, rfl, rfl, rfl, rfl, rfl, rfl, rfl, rfl, rfl,
    rfl, rfl⟩

end Sys2Proof.Machine
end

section
/-! PROOF. The receive side, the commands and the transaction keep out of each other's data
(70_reset_and_hazards.md R321). -/

namespace Sys2Proof.Machine

/-- `s` with the registers and the buffers of `x` that the host's commands work on (R321). Unlike
`State.withHost` it leaves the random source, from which a retransmission draws its seed. -/
def State.withHostData (s x : State) : State :=
  { s with
    cmd := x.cmd, status := x.status, outLen := x.outLen, seed := x.seed, irqEn := x.irqEn
    a := x.a, b := x.b }

theorem txAttempt_keeps_hostData (s : State) : s.txAttempt = s.txAttempt.withHostData s := by
  obtain ⟨_, _, _, ⟨_, h⟩ | ⟨_, h⟩⟩ := txAttempt_eq_with s <;> rw [h] <;> rfl

theorem dispatchPacket_keeps_hostData (s : State) (op : Byte) (args : List Byte) :
    s.dispatchPacket op args = (s.dispatchPacket op args).withHostData s := by
  rw [dispatchPacket_keeps_host]
  rfl

section
variable {i : Instr} {s t : State}

theorem eq_rxByte_or_packet?_of_receives (hi : i.receives = true) :
    (∃ b, i = .rxByte b) ∨ ∃ op args, i.packet? = some (op, args) := by
  unfold Instr.receives at hi
  split at hi
  next b => exact .inl ⟨b, rfl⟩
  next =>
    obtain ⟨⟨op, args⟩, hp⟩ := Option.isSome_iff_exists.mp hi
    exact .inr ⟨op, args, hp⟩

/-- A byte, a packet and a timeout leave alone what the host's commands work on (R321). -/
theorem exec_keeps_hostData (hi : i.receives = true ∨ i = .timeout) (h : exec i s = .next t) :
    t = t.withHostData s := by
  obtain hi | rfl := hi
  · obtain ⟨b, rfl⟩ | ⟨op, args, hp⟩ := eq_rxByte_or_packet?_of_receives hi
    · obtain ⟨x, rfl⟩ | ⟨x, y, op, args, -, rfl⟩ := execRxByte_eq_withRx h
      · rfl
      · rw [dispatchPacket_keeps_hostData]
        rfl
    · cases (exec_of_packet s hp).symm.trans h
      exact dispatchPacket_keeps_hostData s op args
  · obtain ⟨-, rfl⟩ | ⟨-, -, rfl⟩ | ⟨-, -, rfl⟩ := execTimeout_next h
    · rfl
    · exact txAttempt_keeps_hostData s.retried
    · rfl

/-- TXN_SEND reports an error, or begins a transaction with its first attempt (43_correlator.md
R220). -/
theorem exec_txnSend_next {arg : Byte} {len : Len} (h : exec (.txnSend arg len) s = .next t) :
    (∃ c, t = { s with cmd := cmdWord 0x08 arg len, status := c }) ∨
      t = ((s.issue (cmdWord 0x08 arg len)).beginTransaction arg len).txAttempt.setStatus OK := by
  by_cases hs : s.txcState = .idle
  · by_cases hl : len.toNat < 1 ∨ 256 < len.toNat
    · cases (exec_txnSend_of_bad_length hs hl).symm.trans h
      exact .inl ⟨ERR_LEN, rfl⟩
    · simp only [not_or, Nat.not_lt] at hl
      cases (exec_txnSend_of_idle hs hl.1 hl.2).symm.trans h
      exact .inr rfl
  · cases (exec_txnSend_of_locked hs).symm.trans h
    exact .inl ⟨ERR_BUSY, rfl⟩

/-- However TXN_SEND is issued, it does what the command does (44_control.md R253). -/
theorem exec_eq_txnSend_of_runsOp (hi : i.runsOp 0x08 = true) (s : State) :
    ∃ arg len, exec i s = exec (.txnSend arg len) s := by
  obtain ⟨arg, len, hw⟩ := exists_issuedWord?_of_runsOp hi
  exact ⟨arg, len, (exec_of_issuedWord? hw s).trans (runCommand_of_commandWord? rfl s)⟩

/-- A command does not disturb the reassembly (R321). -/
theorem exec_keeps_rx_of_issuedWord? (hw : i.issuedWord?.isSome = true) (h : exec i s = .next t) :
    t = t.withRx s :=
  exec_keeps_rx h (by rintro rfl; cases hw) (by rintro b rfl; cases hw)

/-- TXN_SEND works on CMD, STATUS and the transaction alone (10_state.md R23). -/
theorem exec_keeps_of_runsOp_txnSend (hi : i.runsOp 0x08 = true) (h : exec i s = .next t) :
    t.seed = s.seed ∧ t.outLen = s.outLen ∧ t.a = s.a ∧ t.b = s.b := by
  obtain ⟨arg, len, hsend⟩ := exec_eq_txnSend_of_runsOp hi s
  obtain ⟨c, rfl⟩ | rfl := exec_txnSend_next (hsend.symm.trans h)
  · exact ⟨rfl, rfl, rfl, rfl⟩
  · rw [txAttempt_keeps_hostData]
    exact ⟨rfl, rfl, rfl, rfl⟩

end

/-- Settles O57: the host's data, the reassembler, and the data that no transaction writes. -/
theorem receiveSideLeavesCommandStateAlone : Obligations.ReceiveSideLeavesCommandStateAlone := by
  refine fun i s t h => ⟨fun hi => ?_, fun hw => ?_, fun hi => exec_keeps_of_runsOp_txnSend hi h⟩
  · rw [exec_keeps_hostData hi h]
    exact ⟨rfl, rfl, rfl, rfl, rfl, rfl, rfl⟩
  · rw [exec_keeps_rx_of_issuedWord? hw h]
    exact ⟨rfl, rfl, rfl⟩

end Sys2Proof.Machine
end

section
/-! PROOF. What puts bytes on TX waits for their loopback (70_reset_and_hazards.md R322): an attempt
that emits its frame enters WAIT_LOOPBACK with it, and nothing but an attempt emits. -/

open Sys2Proof.Form

namespace Sys2Proof.Machine

/-- `t` waits for the loopback of the one frame that it has sent beyond what `s` had: the pending
request, scrambled with the seed in TXC_SEED (43_correlator.md R221). -/
def SentAndWaiting (s t : State) : Prop :=
  t.txcState = .waitLoopback ∧
    ∃ f, enc [t.txcSeed.setWidth 8] (scrambled s.params.key t.pending (t.txcSeed.setWidth 8))
        = .ok f ∧ t.txOut = s.txOut ++ f

/-- The seed byte of an attempt's frame can be read back from TXC_SEED (10_state.md R42). -/
theorem seeded_txcSeed_setWidth (s : State) : s.seeded.txcSeed.setWidth 8 = s.drawnSeed := by
  rw [seeded_txcSeed, State.drawnSeed, seedOfDraw_setWidth, setWidth_seven_setWidth_byte]

theorem seeded_txOut (s : State) : s.seeded.txOut = s.txOut := afterDraw_txOut s

/-- An attempt emits nothing when the encoder refuses its frame. -/
theorem txAttempt_sentAndWaiting {s : State} (hne : s.txAttempt.txOut ≠ s.txOut) :
    SentAndWaiting s s.txAttempt := by
  obtain ⟨f, hf, h⟩ | ⟨e, -, h⟩ := txAttempt_cases s
  · have hpend : s.txAttempt.pending = s.pending := by
      rw [h]
      exact seeded_pending s
    have hseed : s.txAttempt.txcSeed.setWidth 8 = s.drawnSeed := by
      rw [h]
      exact seeded_txcSeed_setWidth s
    have hout : s.txAttempt.txOut = s.txOut ++ f := by
      rw [h]
      exact congrArg (· ++ f) (seeded_txOut s)
    refine ⟨by rw [h], f, ?_, hout⟩
    rw [hpend, hseed, scrambled_eq_scr]
    exact hf
  · rw [h] at hne
    exact absurd (seeded_txOut s) hne

theorem dispatchPacket_txOut (s : State) (op : Byte) (args : List Byte) :
    (s.dispatchPacket op args).txOut = s.txOut := by
  obtain ⟨-, -, -, -, h⟩ | ⟨-, -, -, h⟩ | ⟨-, -, -, -, h⟩ | ⟨-, -, h⟩ :=
    dispatchPacket_cases s op args <;> rw [h]
  · obtain ⟨-, h⟩ | ⟨-, -, h⟩ := loopbackOk_cases s
    · rw [h, finish_txOut]
    · rw [h]
  · rfl
  · obtain ⟨-, h⟩ | ⟨-, h⟩ := captureReply_cases s (op :: args) <;> rw [h] <;> rfl
  · rfl

theorem execRxByte_txOut {b : Byte} {s t : State} (h : execRxByte b s = .next t) :
    t.txOut = s.txOut := by
  obtain ⟨x, rfl⟩ | ⟨x, y, op, args, -, rfl⟩ := execRxByte_eq_withRx h
  · rfl
  · exact dispatchPacket_txOut (s.withRx x) op args

/-- A retransmission is the one way in which the timer emits (43_correlator.md R226). -/
theorem execTimeout_sentAndWaiting {s t : State} (h : execTimeout s = .next t)
    (hne : t.txOut ≠ s.txOut) : SentAndWaiting s t := by
  obtain ⟨-, rfl⟩ | ⟨-, -, rfl⟩ | ⟨-, -, rfl⟩ := execTimeout_next h
  · exact absurd rfl hne
  · exact txAttempt_sentAndWaiting (s := s.retried) hne
  · exact absurd rfl hne

/-- Nothing but TXN_SEND and TIMEOUT emits, and what they emit is waited for. -/
theorem exec_sentAndWaiting {i : Instr} {s t : State} (h : exec i s = .next t)
    (hne : t.txOut ≠ s.txOut) :
    SentAndWaiting s t ∧ (i.runsOp 0x08 = true ∨ i = .timeout) := by
  cases exec_effect h with
  | host | ack | reset | read => exact absurd rfl hne
  | send w arg len hi =>
    exact ⟨txAttempt_sentAndWaiting (s := (s.issue w).beginTransaction arg len) hne, .inl hi⟩
  | packet op args => exact absurd (dispatchPacket_txOut s op args) hne
  | receive _ _ _ h => exact absurd (execRxByte_txOut h) hne
  | timeout _ hi h => exact ⟨execTimeout_sentAndWaiting h hne, .inr hi⟩

/-- Settles O59: `SentAndWaiting` in the plain terms of the statement. -/
theorem transmittingIsWaiting : Obligations.TransmittingIsWaiting := by
  intro i s t h hne
  obtain ⟨⟨hwait, hframe⟩, hi⟩ := exec_sentAndWaiting h hne
  exact ⟨hwait, hi, hframe⟩

end Sys2Proof.Machine
end
